-- ==== Sys2Proof/Word.lean ====
section
/-! DEFINITION. The machine's words: a register and a bus address are 32 bits (00_scope.md R10), a bus
byte is 8 bits (30_encoding.md R171). Nothing else stands here. -/

namespace Sys2Proof

/-- A register value, a written value or a system byte address: 32 bits (00_scope.md R10). -/
abbrev Word := BitVec 32

/-- A data byte of the I²C bus or of a FIFO: 8 bits (30_encoding.md R171). -/
abbrev Byte := BitVec 8

end Sys2Proof
end

