-- ==== Sys2Proof/Syntax.lean ====
section
/-! DEFINITION. Syntax, whole: one constructor of `Instr` per row of spec/opcode_table.json (92 register
accesses of format ACC and 8 controller commands of format CMDW), the controller command record, the
statements of a HOST program (30_encoding.md R190), the vocabulary of bus events (10_state.md R70), the
refusal reasons (60_exceptions.md R603) and the names of the agents' turns (00_scope.md R7). -/

namespace Sys2Proof

/-- How a write reaches an aliased block, by `ACC[13:12]` (30_encoding.md R151, 20_memory.md R106):
0 normal, 1 XOR, 2 SET, 3 CLR. -/
inductive AliasOp where
  /-- The value is written as it stands. -/
  | normal
  /-- The stored value is XORed with it. -/
  | xorBits
  /-- Its ones are set. -/
  | setBits
  /-- Its ones are cleared. -/
  | clrBits
deriving DecidableEq, Repr, Inhabited

/-- One command of the transmit FIFO (10_state.md R60): IC_DATA_CMD bits 8, 9, 10 and 7:0. -/
structure Cmd where
  /-- CMD: true for a read, false for a write. -/
  cmd : Bool
  /-- STOP: a STOP follows this command. -/
  stop : Bool
  /-- RESTART: a RESTART comes before this command. -/
  restart : Bool
  /-- DAT: the byte to write, kept but never used for a read (30_encoding.md R161). -/
  dat : Byte
deriving DecidableEq, Repr, Inhabited

/-- The direction of a transfer (10_state.md R63). -/
inductive Dir where
  | write
  | read
deriving DecidableEq, Repr, Inhabited

/-- What an ACK slot showed (10_state.md R70). -/
inductive Answer where
  | ack
  | nack
  /-- Another agent won the bus. -/
  | lost
deriving DecidableEq, Repr, Inhabited

/-- A bus event (10_state.md R70). -/
inductive BusEvent where
  | start
  | restart
  | stop
  /-- An address byte the controller sent, with what its ACK slot showed. -/
  | addr (a : Byte) (ans : Answer)
  /-- A data byte the controller sent, with what its ACK slot showed. -/
  | tx (d : Byte) (ans : Answer)
  /-- A byte received. -/
  | rx (d : Byte)
  /-- The controller acknowledged a received byte. -/
  | mack
  /-- The controller did not acknowledge a received byte. -/
  | mnack
  | envStart
  | envStop
deriving DecidableEq, Repr, Inhabited

/-- An event of TRACE with its flag `wired`: whether 40_pin_mux.md R245 held when it was emitted
(10_state.md R70). -/
structure TraceEntry where
  event : BusEvent
  wired : Bool
deriving DecidableEq, Repr, Inhabited

/-- The cycle-level phases of the SCL waveform (10_state.md R66, 70_reset_and_hazards.md R730). -/
inductive Phase where
  | idle
  | startHold
  | low
  | high
  | stopSetup
  | busFree
deriving DecidableEq, Repr, Inhabited

/-- Who pulls SDA low in a cycle, the controller and the target (30_encoding.md R172): none where no rule says. -/
structure SdaDrive where
  ctrlLow : Option Bool
  targetLow : Option Bool
deriving DecidableEq, Repr, Inhabited

/-- A change of the controller's drive of SDA that is due after some more cycles (70_reset_and_hazards.md R732). -/
structure SdaChange where
  after : Nat
  ctrlLow : Option Bool
deriving DecidableEq, Repr, Inhabited

/-- A cycle-level segment: a phase, its length in controller-clock cycles, none where
70_reset_and_hazards.md R731 names the phase and states no duration, and what SDA carries in a LOW or a HIGH,
none where the phase alone says it (R730, R731, R732). -/
structure Segment where
  phase : Phase
  cycles : Option Nat
  sda : Option SdaDrive
deriving DecidableEq, Repr, Inhabited

/-- The refusal reasons of 60_exceptions.md R603, one constructor each. A refusal marks the run
(10_state.md R74); it never changes a register. -/
inductive Reason where
  /-- An access not 32 bits wide or not word aligned (20_memory.md R104). -/
  | widthOrAlign
  /-- An address that decodes to no register (20_memory.md R103). -/
  | unmapped
  /-- A write to a read-only register (20_memory.md R103). -/
  | writeRo
  /-- A read at an address of alias 1, 2 or 3 (20_memory.md R107). -/
  | aliasRead
  /-- A write of IC_DATA_CMD or IC_ENABLE at alias 1, 2 or 3 (20_memory.md R107). -/
  | aliasSideEffect
  /-- An access to a block whose RESET_DONE bit is 0 (20_memory.md R111). -/
  | blockInReset
  /-- A reserved function select (40_pin_mux.md R231). -/
  | funcselReserved
  /-- A second pin selecting the same I2C0 signal (40_pin_mux.md R231). -/
  | i2c0SignalOnTwoPins
  /-- IC_SDA_HOLD or IC_SDA_SETUP written while enabled (41_i2c_config.md R306). -/
  | configWhileEnabled
  /-- IC_RX_TL or IC_TX_TL above 15 (41_i2c_config.md R310). -/
  | thresholdRange
  /-- ABORT = 1 with ENABLE = 0 in one write (41_i2c_config.md R320). -/
  | abortWhileDisabling
  /-- A disable while the controller is active or an abort is pending (41_i2c_config.md R320). -/
  | disableWhileActive
  /-- The admission check (41_i2c_config.md R330), here and in the five that follow. -/
  | enableSlaveMode
  | enable10bit
  | enableSpecial
  | enableHcntTooSmall
  | enableLcntTooSmall
  | enableSdaHoldTooLong
  /-- An access to IC_DATA_CMD while disabled (42_i2c_data_status.md R350, R355). -/
  | dataCmdWhileDisabled
  /-- A write of IC_DATA_CMD during the flush hold (42_i2c_data_status.md R350). -/
  | dataCmdDuringFlush
  /-- Preconditions of I2C_INIT (44_driver_ops.md R510), here and in the two that follow. -/
  | pinsNotConfigured
  | busFreqOutOfRange
  | dividerOutOfRange
  /-- Preconditions of I2C_WRITE (44_driver_ops.md R520), here and in the next. -/
  | emptyWrite
  | reservedAddress
deriving DecidableEq, Repr, Inhabited

/-- The steps of the bus environment BUSENV (43_i2c_fsm.md R440). -/
inductive EnvStep where
  | eStart
  | eStop
  | eSclLow
  | eSclFree
  | eSdaLow
  | eSdaFree
deriving DecidableEq, Repr, Inhabited

/-- Which agent may take the next step (00_scope.md R7). `clk` is one controller-clock cycle of the
timing refinement (70_reset_and_hazards.md R730 to R736), which no functional rule reads. -/
inductive Turn where
  | host
  | ctrl
  | env (e : EnvStep)
  /-- The release step of RSTAGENT for one bit of RESETS (40_pin_mux.md R205). -/
  | rst (i : Fin 25)
  | clk
deriving DecidableEq, Repr, Inhabited

/-- Where a one-bit free value is drawn, so that the draws of one moment are independent of each other:
a pin's unmodelled source (40_pin_mux.md R236), an unsettled node level (R250), the controller's SDA
drive between steps (43_i2c_fsm.md R445) and within one (70_reset_and_hazards.md R730), its unconnected
inputs (40_pin_mux.md R235). -/
inductive Site where
  | periOut (n : Nat)
  | periOe (n : Nat)
  | level (n : Nat)
  | sdaOe
  | sdaCycle
  | sdaTarget
  | sdaIn
  | sclIn
deriving DecidableEq, Repr, Inhabited

/-- The two-operand operators of a LET (30_encoding.md R190). -/
inductive BinOp where
  | and
  | or
  | xor
  | add
  | sub
  | shl
  | shr
  | div
  | mod
deriving DecidableEq, Repr, Inhabited

/-- Expressions of a HOST program over its temporaries and constants (30_encoding.md R190), and
`bytes[i]`, the argument array that LET may read (44_driver_ops.md R520). -/
inductive Expr where
  | const (w : Word)
  | temp (t : Nat)
  | not (e : Expr)
  | bin (op : BinOp) (a b : Expr)
  | byteAt (bytes : List Byte) (i : Expr)
deriving DecidableEq, Repr, Inhabited

/-- The comparisons of an IF (30_encoding.md R190); numbers are unsigned (00_scope.md R11). -/
inductive CmpOp where
  | eq
  | ne
  | lt
  | le
  | gt
  | ge
deriving DecidableEq, Repr, Inhabited

/-- The condition of an IF. -/
structure Cond where
  op : CmpOp
  a : Expr
  b : Expr
deriving DecidableEq, Repr, Inhabited

/-- A statement of a HOST program (30_encoding.md R190). A label is the index of its statement. `n` is the
width of the access in bytes, 4 in every statement of R190 (20_memory.md R104 refuses another width).
DESIGN CHOICE (log entry 29): R190 says what `a`, `c` and `e` are and not what `m` and `x` are; here the
`m` and `x` of POLL and POLLNE are constants.
`raiseRefuse`, `requirePins` and `requirePinBanks` are the preconditions of the operations of 44_driver_ops.md. -/
inductive Stmt where
  /-- `RD a -> t`, or `RD a` with no temporary. -/
  | rd (n : Nat) (a : Word) (t : Option Nat)
  /-- `WR a, e`. -/
  | wr (n : Nat) (a : Word) (e : Expr)
  /-- `POLL a, m, x`: read until `(t AND m) = x`. -/
  | poll (a : Word) (m x : Word)
  /-- `POLLNE a, m, x`: read until `(t AND m) ≠ x`. -/
  | pollne (a : Word) (m x : Word)
  /-- `IF c GOTO L`. -/
  | ifGoto (c : Cond) (l : Nat)
  /-- `GOTO L`. -/
  | goto (l : Nat)
  /-- `LET t = e`. -/
  | letTemp (t : Nat) (e : Expr)
  /-- `RETURN e`. -/
  | ret (e : Expr)
  /-- `HALT`. -/
  | halt
  /-- A failed precondition of an operation: `raise Refuse(r)`, and the operation makes no access. -/
  | raiseRefuse (r : Reason)
  /-- The first precondition of I2C_INIT (44_driver_ops.md R510): both pins meet `i2c_pin_ok`. -/
  | requirePins
  /-- The precondition of PIN_RECONFIGURE (44_driver_ops.md R500): IO_BANK0 and PADS_BANK0 are out of
  reset. -/
  | requirePinBanks
deriving DecidableEq, Repr, Inhabited

/-- An instruction as it is written down: an access `(n, ACC, v)` (30_encoding.md R152) or a CMDW word
(R160). ACC is 33 bits: `{W, addr[31:0]}` (R151). The spec gives no byte layout of an ACC, since no
memory holds one (20_memory.md R116). -/
inductive Code where
  | acc (n : Nat) (acc : BitVec 33) (v : Word)
  | cmdw (w : Word)
deriving DecidableEq, Repr, Inhabited

/-- The instructions: one constructor per row of spec/opcode_table.json, in the table's order.
`n` is a pin index, `op` the alias a write goes through (`ACC[13:12]`), `v` the written value, `dat` the
DAT byte of a command. -/
inductive Instr where
  /-- RD.I2C0.IC_CON (41_i2c_config.md R302). -/
  | rdIcCon
  /-- WR.I2C0.IC_CON (41_i2c_config.md R303). -/
  | wrIcCon (op : AliasOp) (v : Word)
  /-- RD.I2C0.IC_TAR (41_i2c_config.md R304). -/
  | rdIcTar
  /-- WR.I2C0.IC_TAR (41_i2c_config.md R304). -/
  | wrIcTar (op : AliasOp) (v : Word)
  /-- RD.I2C0.IC_SAR (41_i2c_config.md R308). -/
  | rdIcSar
  /-- WR.I2C0.IC_SAR (41_i2c_config.md R308). -/
  | wrIcSar (op : AliasOp) (v : Word)
  /-- RD.I2C0.IC_DATA_CMD (42_i2c_data_status.md R355). -/
  | rdIcDataCmd
  /-- WR.I2C0.IC_DATA_CMD (42_i2c_data_status.md R350). -/
  | wrIcDataCmd (v : Word)
  /-- RD.I2C0.IC_SS_SCL_HCNT (41_i2c_config.md R305). -/
  | rdIcSsSclHcnt
  /-- WR.I2C0.IC_SS_SCL_HCNT (41_i2c_config.md R305). -/
  | wrIcSsSclHcnt (op : AliasOp) (v : Word)
  /-- RD.I2C0.IC_SS_SCL_LCNT (41_i2c_config.md R305). -/
  | rdIcSsSclLcnt
  /-- WR.I2C0.IC_SS_SCL_LCNT (41_i2c_config.md R305). -/
  | wrIcSsSclLcnt (op : AliasOp) (v : Word)
  /-- RD.I2C0.IC_FS_SCL_HCNT (41_i2c_config.md R305). -/
  | rdIcFsSclHcnt
  /-- WR.I2C0.IC_FS_SCL_HCNT (41_i2c_config.md R305). -/
  | wrIcFsSclHcnt (op : AliasOp) (v : Word)
  /-- RD.I2C0.IC_FS_SCL_LCNT (41_i2c_config.md R305). -/
  | rdIcFsSclLcnt
  /-- WR.I2C0.IC_FS_SCL_LCNT (41_i2c_config.md R305). -/
  | wrIcFsSclLcnt (op : AliasOp) (v : Word)
  /-- RD.I2C0.IC_INTR_STAT (42_i2c_data_status.md R367). -/
  | rdIcIntrStat
  /-- RD.I2C0.IC_INTR_MASK (41_i2c_config.md R309). -/
  | rdIcIntrMask
  /-- WR.I2C0.IC_INTR_MASK (41_i2c_config.md R309). -/
  | wrIcIntrMask (op : AliasOp) (v : Word)
  /-- RD.I2C0.IC_RAW_INTR_STAT (42_i2c_data_status.md R366). -/
  | rdIcRawIntrStat
  /-- RD.I2C0.IC_RX_TL (41_i2c_config.md R310). -/
  | rdIcRxTl
  /-- WR.I2C0.IC_RX_TL (41_i2c_config.md R310). -/
  | wrIcRxTl (op : AliasOp) (v : Word)
  /-- RD.I2C0.IC_TX_TL (41_i2c_config.md R310). -/
  | rdIcTxTl
  /-- WR.I2C0.IC_TX_TL (41_i2c_config.md R310). -/
  | wrIcTxTl (op : AliasOp) (v : Word)
  /-- RD.I2C0.IC_CLR_INTR (42_i2c_data_status.md R371). -/
  | rdIcClrIntr
  /-- RD.I2C0.IC_CLR_RX_UNDER (42_i2c_data_status.md R373). -/
  | rdIcClrRxUnder
  /-- RD.I2C0.IC_CLR_RX_OVER (42_i2c_data_status.md R373). -/
  | rdIcClrRxOver
  /-- RD.I2C0.IC_CLR_TX_OVER (42_i2c_data_status.md R373). -/
  | rdIcClrTxOver
  /-- RD.I2C0.IC_CLR_RD_REQ (42_i2c_data_status.md R373). -/
  | rdIcClrRdReq
  /-- RD.I2C0.IC_CLR_TX_ABRT (42_i2c_data_status.md R373). -/
  | rdIcClrTxAbrt
  /-- RD.I2C0.IC_CLR_RX_DONE (42_i2c_data_status.md R373). -/
  | rdIcClrRxDone
  /-- RD.I2C0.IC_CLR_ACTIVITY (42_i2c_data_status.md R372). -/
  | rdIcClrActivity
  /-- RD.I2C0.IC_CLR_STOP_DET (42_i2c_data_status.md R373). -/
  | rdIcClrStopDet
  /-- RD.I2C0.IC_CLR_START_DET (42_i2c_data_status.md R373). -/
  | rdIcClrStartDet
  /-- RD.I2C0.IC_CLR_GEN_CALL (42_i2c_data_status.md R373). -/
  | rdIcClrGenCall
  /-- RD.I2C0.IC_ENABLE (41_i2c_config.md R324). -/
  | rdIcEnable
  /-- WR.I2C0.IC_ENABLE (41_i2c_config.md R320). -/
  | wrIcEnable (v : Word)
  /-- RD.I2C0.IC_STATUS (42_i2c_data_status.md R365). -/
  | rdIcStatus
  /-- RD.I2C0.IC_TXFLR (42_i2c_data_status.md R360). -/
  | rdIcTxflr
  /-- RD.I2C0.IC_RXFLR (42_i2c_data_status.md R360). -/
  | rdIcRxflr
  /-- RD.I2C0.IC_SDA_HOLD (41_i2c_config.md R306). -/
  | rdIcSdaHold
  /-- WR.I2C0.IC_SDA_HOLD (41_i2c_config.md R306). -/
  | wrIcSdaHold (op : AliasOp) (v : Word)
  /-- RD.I2C0.IC_TX_ABRT_SOURCE (42_i2c_data_status.md R368). -/
  | rdIcTxAbrtSource
  /-- RD.I2C0.IC_SLV_DATA_NACK_ONLY (41_i2c_config.md R312). -/
  | rdIcSlvDataNackOnly
  /-- WR.I2C0.IC_SLV_DATA_NACK_ONLY (41_i2c_config.md R312). -/
  | wrIcSlvDataNackOnly (op : AliasOp) (v : Word)
  /-- RD.I2C0.IC_DMA_CR (41_i2c_config.md R311). -/
  | rdIcDmaCr
  /-- WR.I2C0.IC_DMA_CR (41_i2c_config.md R311). -/
  | wrIcDmaCr (op : AliasOp) (v : Word)
  /-- RD.I2C0.IC_DMA_TDLR (41_i2c_config.md R311). -/
  | rdIcDmaTdlr
  /-- WR.I2C0.IC_DMA_TDLR (41_i2c_config.md R311). -/
  | wrIcDmaTdlr (op : AliasOp) (v : Word)
  /-- RD.I2C0.IC_DMA_RDLR (41_i2c_config.md R311). -/
  | rdIcDmaRdlr
  /-- WR.I2C0.IC_DMA_RDLR (41_i2c_config.md R311). -/
  | wrIcDmaRdlr (op : AliasOp) (v : Word)
  /-- RD.I2C0.IC_SDA_SETUP (41_i2c_config.md R306). -/
  | rdIcSdaSetup
  /-- WR.I2C0.IC_SDA_SETUP (41_i2c_config.md R306). -/
  | wrIcSdaSetup (op : AliasOp) (v : Word)
  /-- RD.I2C0.IC_ACK_GENERAL_CALL (41_i2c_config.md R312). -/
  | rdIcAckGeneralCall
  /-- WR.I2C0.IC_ACK_GENERAL_CALL (41_i2c_config.md R312). -/
  | wrIcAckGeneralCall (op : AliasOp) (v : Word)
  /-- RD.I2C0.IC_ENABLE_STATUS (42_i2c_data_status.md R369). -/
  | rdIcEnableStatus
  /-- RD.I2C0.IC_FS_SPKLEN (41_i2c_config.md R307). -/
  | rdIcFsSpklen
  /-- WR.I2C0.IC_FS_SPKLEN (41_i2c_config.md R307). -/
  | wrIcFsSpklen (op : AliasOp) (v : Word)
  /-- RD.I2C0.IC_CLR_RESTART_DET (42_i2c_data_status.md R373). -/
  | rdIcClrRestartDet
  /-- RD.I2C0.IC_COMP_PARAM_1 (42_i2c_data_status.md R374). -/
  | rdIcCompParam1
  /-- RD.I2C0.IC_COMP_VERSION (42_i2c_data_status.md R374). -/
  | rdIcCompVersion
  /-- RD.I2C0.IC_COMP_TYPE (42_i2c_data_status.md R374). -/
  | rdIcCompType
  /-- RD.RESETS.RESET (40_pin_mux.md R200). -/
  | rdResetsReset
  /-- WR.RESETS.RESET (40_pin_mux.md R201). -/
  | wrResetsReset (op : AliasOp) (v : Word)
  /-- RD.RESETS.WDSEL (40_pin_mux.md R202). -/
  | rdResetsWdsel
  /-- WR.RESETS.WDSEL (40_pin_mux.md R202). -/
  | wrResetsWdsel (op : AliasOp) (v : Word)
  /-- RD.RESETS.RESET_DONE (40_pin_mux.md R203). -/
  | rdResetsResetDone
  /-- RD.IO_BANK0.GPIOn_STATUS (40_pin_mux.md R240). -/
  | rdGpioStatus (n : BitVec 5)
  /-- RD.IO_BANK0.GPIOn_CTRL (40_pin_mux.md R232). -/
  | rdGpioCtrl (n : BitVec 5)
  /-- WR.IO_BANK0.GPIOn_CTRL (40_pin_mux.md R231). -/
  | wrGpioCtrl (n : BitVec 5) (op : AliasOp) (v : Word)
  /-- RD.PADS_BANK0.VOLTAGE_SELECT (40_pin_mux.md R248). -/
  | rdVoltageSelect
  /-- WR.PADS_BANK0.VOLTAGE_SELECT (40_pin_mux.md R248). -/
  | wrVoltageSelect (op : AliasOp) (v : Word)
  /-- RD.PADS_BANK0.GPIOn (40_pin_mux.md R249). -/
  | rdPadGpio (n : BitVec 5)
  /-- WR.PADS_BANK0.GPIOn (40_pin_mux.md R249). -/
  | wrPadGpio (n : BitVec 5) (op : AliasOp) (v : Word)
  /-- RD.SIO.CPUID (40_pin_mux.md R263). -/
  | rdSioCpuid
  /-- RD.SIO.GPIO_IN (40_pin_mux.md R260). -/
  | rdSioGpioIn
  /-- RD.SIO.GPIO_OUT (40_pin_mux.md R261). -/
  | rdSioGpioOut
  /-- WR.SIO.GPIO_OUT (40_pin_mux.md R261). -/
  | wrSioGpioOut (v : Word)
  /-- RD.SIO.GPIO_OUT_SET (20_memory.md R102). -/
  | rdSioGpioOutSet
  /-- WR.SIO.GPIO_OUT_SET (40_pin_mux.md R262). -/
  | wrSioGpioOutSet (v : Word)
  /-- RD.SIO.GPIO_OUT_CLR (20_memory.md R102). -/
  | rdSioGpioOutClr
  /-- WR.SIO.GPIO_OUT_CLR (40_pin_mux.md R262). -/
  | wrSioGpioOutClr (v : Word)
  /-- RD.SIO.GPIO_OUT_XOR (20_memory.md R102). -/
  | rdSioGpioOutXor
  /-- WR.SIO.GPIO_OUT_XOR (40_pin_mux.md R262). -/
  | wrSioGpioOutXor (v : Word)
  /-- RD.SIO.GPIO_OE (40_pin_mux.md R261). -/
  | rdSioGpioOe
  /-- WR.SIO.GPIO_OE (40_pin_mux.md R261). -/
  | wrSioGpioOe (v : Word)
  /-- RD.SIO.GPIO_OE_SET (20_memory.md R102). -/
  | rdSioGpioOeSet
  /-- WR.SIO.GPIO_OE_SET (40_pin_mux.md R262). -/
  | wrSioGpioOeSet (v : Word)
  /-- RD.SIO.GPIO_OE_CLR (20_memory.md R102). -/
  | rdSioGpioOeClr
  /-- WR.SIO.GPIO_OE_CLR (40_pin_mux.md R262). -/
  | wrSioGpioOeClr (v : Word)
  /-- RD.SIO.GPIO_OE_XOR (20_memory.md R102). -/
  | rdSioGpioOeXor
  /-- WR.SIO.GPIO_OE_XOR (40_pin_mux.md R262). -/
  | wrSioGpioOeXor (v : Word)
  /-- CMDW.W (30_encoding.md R160 performed by R429). -/
  | cmdW (dat : Byte)
  /-- CMDW.R (30_encoding.md R160 performed by R429). -/
  | cmdR (dat : Byte)
  /-- CMDW.W.STOP (30_encoding.md R160 performed by R429). -/
  | cmdWStop (dat : Byte)
  /-- CMDW.R.STOP (30_encoding.md R160 performed by R429). -/
  | cmdRStop (dat : Byte)
  /-- CMDW.W.RESTART (30_encoding.md R160 performed by R429). -/
  | cmdWRestart (dat : Byte)
  /-- CMDW.R.RESTART (30_encoding.md R160 performed by R429). -/
  | cmdRRestart (dat : Byte)
  /-- CMDW.W.RESTART.STOP (30_encoding.md R160 performed by R429). -/
  | cmdWRestartStop (dat : Byte)
  /-- CMDW.R.RESTART.STOP (30_encoding.md R160 performed by R429). -/
  | cmdRRestartStop (dat : Byte)
deriving DecidableEq, Repr, Inhabited

end Sys2Proof
end

