-- ==== Sys2Proof/Config.lean ====
section
/-! DEFINITION. Configuration: the parameters of 00_scope.md R9 that are fixed for this hardware, those it
leaves OPEN as constants with no body, and the free values (`draw`, 00_scope.md R12) as functions with no
body of a moment (the counter `draws` of State) and, for one bit, a site. Nothing in Lean can evaluate an
opaque constant, so nothing rests on a value of one. F_IC_CLK, F_BUS_TARGET, TARGET_ADDR,
WRITE_POLL_LIMIT, DISPLAY_WRITES and ENV_MAY_HANG are arguments of the operations and premises that read
them (Machine/Drivers.lean, Safety.lean); LAUNCH_RESETS is the argument of `State.launch`. -/

namespace Sys2Proof.Config

/-- TX_DEPTH (00_scope.md R9). -/
def txDepth : Nat := 16
/-- RX_DEPTH (00_scope.md R9). -/
def rxDepth : Nat := 16
/-- N_GPIO (00_scope.md R9). -/
def nGpio : Nat := 30
/-- SDA_PIN (00_scope.md R9). -/
def sdaPin : Nat := 4
/-- SCL_PIN (00_scope.md R9). -/
def sclPin : Nat := 5
/-- HCNT_MIN (00_scope.md R9). -/
def hcntMin : BitVec 16 := 6
/-- LCNT_MIN (00_scope.md R9). -/
def lcntMin : BitVec 16 := 8
/-- SPKLEN_MIN (00_scope.md R9). -/
def spklenMin : BitVec 8 := 1
/-- SCL_HIGH_EXTRA, 0 by decision D14 (00_scope.md R9, 90_conflicts.md C5). -/
def sclHighExtra : Nat := 0
/-- SCL_LOW_EXTRA, 0 by decision D14 (00_scope.md R9, 90_conflicts.md C5). -/
def sclLowExtra : Nat := 0
/-- F_XTAL in Hz (00_scope.md R9). -/
def fXtal : Nat := 12000000
/-- The reference value of F_IC_CLK in Hz (00_scope.md R9). -/
def fIcClkReference : Nat := 125000000
/-- F_BUS_TARGET in Hz (00_scope.md R9). -/
def fBusTarget : Nat := 400000
/-- The default of LAUNCH_RESETS: every block held (00_scope.md R9, decision D11). -/
def launchResetsDefault : BitVec 25 := 0x1FFFFFF

/-- EXT_PULLUP_SDA: an external pull-up is on the SDA wire. OPEN (00_scope.md R9). -/
opaque extPullupSda : Bool
/-- EXT_PULLUP_SCL: an external pull-up is on the SCL wire. OPEN (00_scope.md R9). -/
opaque extPullupScl : Bool
/-- COMP_PARAM_1, the read value of IC_COMP_PARAM_1, fixed for a run. OPEN (00_scope.md R9). -/
opaque compParam1 : Word

/-- A free 32-bit value of a moment: reserved bits and unsettled read values (20_memory.md R102). -/
opaque freeWord : Nat → Word
/-- A free bit of a moment and a site (40_pin_mux.md R236, R250, 43_i2c_fsm.md R445). -/
opaque freeBool : Nat → Site → Bool
/-- A free TX_FLUSH_CNT (42_i2c_data_status.md R375). -/
opaque freeFlushCnt : Nat → BitVec 9
/-- A free answer in an ACK slot (43_i2c_fsm.md R420, R446). -/
opaque freeAnswer : Nat → Answer
/-- A free byte sent by a target (43_i2c_fsm.md R420, R446). -/
opaque freeByte : Nat → Byte
/-- The length of a cycle-level phase to which 70_reset_and_hazards.md R731 gives none. -/
opaque freeCycles : Nat → BitVec 16
/-- Which agent moves next where State's agenda does not say (00_scope.md R7). -/
opaque freeTurn : Nat → Turn
/-- `a / 0` of a LET, which no rule gives (30_encoding.md R190). -/
opaque divByZero : Word → Word
/-- `a % 0` of a LET, which no rule gives (30_encoding.md R190). -/
opaque modByZero : Word → Word
/-- `bytes[i]` past the end of the argument array, which no rule gives (44_driver_ops.md R520). -/
opaque byteOutOfRange : Word → Word

end Sys2Proof.Config
end

