-- ==== Sys2Proof/Machine/State.lean ====
section
/-! DEFINITION. State, as plain data: the tuple of 10_state.md R30 (I2C0, CTRLST, RESETS, IO_BANK0,
PADS_BANK0, SIO, WIRES, TRACE, MARKS), the HOST agent's own state (30_encoding.md R190), and three fields
of the model: the agenda of turns, the environment's scripted answers and the moment of the next free
value. Every block's reset values (R79), the launch state (70_reset_and_hazards.md R701) and
`State.reset` follow. Fields that a register does not store (`res` bits, computed bits) are no state. -/

namespace Sys2Proof.Machine

/-- The faults of 60_exceptions.md R604. -/
inductive Fault where
  /-- A wire driven low and high at once (40_pin_mux.md R250, R251). Raised by the check after every step
  and by a read that computes the level. It is recorded in MARKS.faulted, and the run goes on with the
  level a free value, so no step of the machine ends in it. Safe: a claim takes "MARKS empty" as a
  premise (10_state.md R74). -/
  | contention
deriving DecidableEq, Repr, Inhabited

/-- Why a step could end with no meaning. The refusals of the spec (`Reason`) do not end a run: they are
recorded in MARKS.refused (10_state.md R74). -/
inductive Refusal where
  /-- An arm of exec whose instruction has no meaning yet. No arm answers it now. Safe: nothing can be
  proved of a step that is refused. -/
  | notModelled (mnemonic : String)
deriving DecidableEq, Repr, Inhabited

/-! ### I2C0 registers (10_state.md R33 to R53) -/

/-- IC_CON (10_state.md R33). Bit 10 reads 0 and stores nothing. -/
structure IcCon where
  masterMode : Bool
  speed : BitVec 2
  tenBitAddrSlave : Bool
  tenBitAddrMaster : Bool
  restartEn : Bool
  slaveDisable : Bool
  stopDetIfAddressed : Bool
  txEmptyCtrl : Bool
  rxFifoFullHldCtrl : Bool
deriving DecidableEq, Repr, Inhabited

/-- IC_TAR (10_state.md R34). -/
structure IcTar where
  addr : BitVec 10
  gcOrStart : Bool
  special : Bool
deriving DecidableEq, Repr, Inhabited

/-- IC_ENABLE (10_state.md R45). -/
structure IcEnable where
  enable : Bool
  abort : Bool
  txCmdBlock : Bool
deriving DecidableEq, Repr, Inhabited

/-- The stored I2C0 registers (10_state.md R33 to R53). -/
structure I2cRegs where
  con : IcCon
  tar : IcTar
  sar : BitVec 10
  ssHcnt : BitVec 16
  ssLcnt : BitVec 16
  fsHcnt : BitVec 16
  fsLcnt : BitVec 16
  intrMask : BitVec 13
  rxTl : BitVec 8
  txTl : BitVec 8
  enable : IcEnable
  sdaTxHold : BitVec 16
  sdaRxHold : BitVec 8
  /-- IC_TX_ABRT_SOURCE bits 16:0 (R49). -/
  abrtSource : BitVec 17
  /-- IC_TX_ABRT_SOURCE.TX_FLUSH_CNT, bits 31:23 (R49). -/
  txFlushCnt : BitVec 9
  slvDataNackOnly : Bool
  dmaCr : BitVec 2
  dmaTdlr : BitVec 4
  dmaRdlr : BitVec 4
  sdaSetup : BitVec 8
  ackGeneralCall : Bool
  fsSpklen : BitVec 8
deriving DecidableEq, Repr, Inhabited

/-! ### CTRLST (10_state.md R60 to R66) -/

/-- RAW, the latched interrupt bits (10_state.md R64). -/
structure RawBits where
  rxUnder : Bool
  rxOver : Bool
  txOver : Bool
  rdReq : Bool
  txAbrt : Bool
  rxDone : Bool
  activity : Bool
  stopDet : Bool
  startDet : Bool
  genCall : Bool
  restartDet : Bool
deriving DecidableEq, Repr, Inhabited

/-- The controller's internal state (10_state.md R60 to R66). -/
structure Ctrl where
  /-- TXQ, oldest first (R60). -/
  txq : List Cmd
  /-- RXQ, oldest first (R61). -/
  rxq : List Byte
  /-- The effective enable (R62). -/
  icEn : Bool
  /-- The controller holds the bus (R63). -/
  owned : Bool
  /-- The direction of the current transfer (R63). -/
  dir : Dir
  /-- The command taken from TXQ and not yet performed (R63). -/
  shift : Option Cmd
  /-- A received byte's ACK slot is not yet sent (R63). -/
  rxAckPending : Bool
  /-- After an abort, TXQ is held flushed (R63). -/
  flushHold : Bool
  raw : RawBits
  /-- The output enables towards the pins (R65). -/
  sdaOe : Bool
  sclOe : Bool
  /-- Cycle-level phase and counter (R66). -/
  phase : Phase
  cnt : BitVec 16
  /-- The model's own: the segments of emitted events that the cycle-level refinement has not begun
  (70_reset_and_hazards.md R730 to R732). No functional rule reads it. -/
  segments : List Segment
  /-- The model's own: who pulls SDA low in the LOW or HIGH the cycle-level refinement is in, and the change of
  the controller's drive that is due in this LOW (70_reset_and_hazards.md R732). No functional rule reads them. -/
  sdaLine : SdaDrive
  sdaDue : Option SdaChange
deriving DecidableEq, Repr, Inhabited

/-! ### The pin multiplexer blocks (10_state.md R67 to R72) -/

/-- RESETS (10_state.md R67). -/
structure ResetsBlock where
  reset : BitVec 25
  wdsel : BitVec 25
  done : BitVec 25
deriving DecidableEq, Repr, Inhabited

/-- GPIOn_CTRL (10_state.md R68). -/
structure PinCtrl where
  funcsel : BitVec 5
  outover : BitVec 2
  oeover : BitVec 2
  inover : BitVec 2
  irqover : BitVec 2
deriving DecidableEq, Repr, Inhabited

/-- The pad control of one pin (10_state.md R71). -/
structure Pad where
  slewfast : Bool
  schmitt : Bool
  pde : Bool
  pue : Bool
  drive : BitVec 2
  ie : Bool
  od : Bool
deriving DecidableEq, Repr, Inhabited

/-- IO_BANK0 (10_state.md R68): GPIOn_CTRL for n in 0..29. -/
structure IoBank where
  ctrl : Vector PinCtrl 30
deriving DecidableEq, Repr

/-- PADS_BANK0 (10_state.md R71): VOLTAGE_SELECT bit 0 and the pads of pins 0..29. -/
structure PadsBank where
  voltageSelect : Bool
  pad : Vector Pad 30
deriving DecidableEq, Repr

/-- SIO (10_state.md R72). -/
structure SioBank where
  gpioOut : BitVec 30
  gpioOe : BitVec 30
deriving DecidableEq, Repr, Inhabited

/-! ### Wires, marks, HOST and the model's own fields -/

/-- WIRES (10_state.md R73). -/
structure Wires where
  envSdaLow : Bool
  envSclLow : Bool
  otherBusy : Bool
deriving DecidableEq, Repr, Inhabited

/-- MARKS (10_state.md R74), oldest first. -/
structure Marks where
  refused : List Reason
  faulted : List Fault
deriving DecidableEq, Repr, Inhabited

/-- The HOST agent (30_encoding.md R190): its program, its statement index, its named 32-bit temporaries
as (name, value) pairs in canonical form (`tempsWf`), whether it has ended, and the result of RETURN.
`readData` is the model's own: the value `MemRead` returned in the last HOST step, none where that step
returned none. -/
structure HostState where
  prog : List Stmt
  pc : Nat
  temps : List (Nat × Word)
  halted : Bool
  result : Option Word
  readData : Option Word
deriving DecidableEq, Repr, Inhabited

/-- The model's own: the turns to be taken next, oldest first (00_scope.md R7), and the answers and bytes
BUSENV will give, oldest first (43_i2c_fsm.md R420). Where a list is empty, the choice is free. -/
structure Script where
  agenda : List Turn
  answers : List Answer
  bytes : List Byte
deriving DecidableEq, Repr, Inhabited

/-- The machine state (10_state.md R30). -/
structure State where
  i2c : I2cRegs
  ctrl : Ctrl
  resets : ResetsBlock
  io : IoBank
  pads : PadsBank
  sio : SioBank
  wires : Wires
  /-- TRACE, oldest first (R70). -/
  trace : List TraceEntry
  marks : Marks
  host : HostState
  script : Script
  /-- The model's own: the moment of the next free value (00_scope.md R12). -/
  draws : Nat
deriving DecidableEq, Repr

/-! ### Reset values (10_state.md R79) -/

/-- IC_CON after reset: 0x65. -/
def IcCon.reset : IcCon :=
  { masterMode := true, speed := 2, tenBitAddrSlave := false, tenBitAddrMaster := false,
    restartEn := true, slaveDisable := true, stopDetIfAddressed := false, txEmptyCtrl := false,
    rxFifoFullHldCtrl := false }

/-- The I2C0 registers after reset (10_state.md R79). -/
def I2cRegs.reset : I2cRegs :=
  { con := IcCon.reset
    tar := { addr := 0x055, gcOrStart := false, special := false }
    sar := 0x055
    ssHcnt := 0x0028, ssLcnt := 0x002F, fsHcnt := 0x0006, fsLcnt := 0x000D
    intrMask := 0x08FF
    rxTl := 0, txTl := 0
    enable := { enable := false, abort := false, txCmdBlock := false }
    sdaTxHold := 0x0001, sdaRxHold := 0
    abrtSource := 0, txFlushCnt := 0
    slvDataNackOnly := false
    dmaCr := 0, dmaTdlr := 0, dmaRdlr := 0
    sdaSetup := 0x64
    ackGeneralCall := true
    fsSpklen := 0x07 }

/-- RAW after reset: all false (10_state.md R64). -/
def RawBits.none : RawBits :=
  { rxUnder := false, rxOver := false, txOver := false, rdReq := false, txAbrt := false,
    rxDone := false, activity := false, stopDet := false, startDet := false, genCall := false,
    restartDet := false }

/-- CTRLST after reset (10_state.md R60 to R66). -/
def Ctrl.reset : Ctrl :=
  { txq := [], rxq := [], icEn := false, owned := false, dir := .write, shift := .none,
    rxAckPending := false, flushHold := false, raw := RawBits.none, sdaOe := false, sclOe := false,
    phase := .idle, cnt := 0, segments := [],
    sdaLine := { ctrlLow := some false, targetLow := some false }, sdaDue := .none }

/-- GPIOn_CTRL after reset: 0x1F, no function and no override (10_state.md R68). -/
def PinCtrl.reset : PinCtrl :=
  { funcsel := 0x1F, outover := 0, oeover := 0, inover := 0, irqover := 0 }

/-- A pad after reset: 0x56 (10_state.md R71). -/
def Pad.reset : Pad :=
  { slewfast := false, schmitt := true, pde := true, pue := false, drive := 1, ie := true, od := false }

/-- IO_BANK0 after reset. -/
def IoBank.reset : IoBank := { ctrl := Vector.replicate 30 PinCtrl.reset }

/-- PADS_BANK0 after reset. -/
def PadsBank.reset : PadsBank := { voltageSelect := false, pad := Vector.replicate 30 Pad.reset }

/-- The launch state for a value of LAUNCH_RESETS (70_reset_and_hazards.md R701): RESET is that value,
RESET_DONE its complement, everything else at its reset value, no HOST program loaded. -/
def State.launch (launchResets : BitVec 25) : State :=
  { i2c := I2cRegs.reset
    ctrl := Ctrl.reset
    resets := { reset := launchResets, wdsel := 0, done := ~~~launchResets }
    io := IoBank.reset
    pads := PadsBank.reset
    sio := { gpioOut := 0, gpioOe := 0 }
    wires := { envSdaLow := false, envSclLow := false, otherBusy := false }
    trace := []
    marks := { refused := [], faulted := [] }
    host := { prog := [], pc := 0, temps := [], halted := false, result := .none, readData := .none }
    script := { agenda := [], answers := [], bytes := [] }
    draws := 0 }

/-- The machine right after reset: the launch state with the default LAUNCH_RESETS, every block held
(00_scope.md R9, 70_reset_and_hazards.md R700, R701). -/
def State.reset : State := State.launch Config.launchResetsDefault

end Sys2Proof.Machine
end

