-- ==== Sys2Proof/Machine/Operands.lean ====
section
/-! DEFINITION. Operand forms: the alias operation of a write (20_memory.md R106), and how each register's
stored fields make the word a read shows and how a written word splits into them (10_state.md R33 to R72,
30_encoding.md R154). A `…Word` definition gives the defined bits from bit 0 up; the reserved bits above
them are added where the value is returned (Machine/Ops.lean). -/

namespace Sys2Proof.Machine

/-- The alias operation of 20_memory.md R106: `0: v | 1: old XOR v | 2: old OR v | 3: old AND NOT v`. -/
def aliasApply (op : AliasOp) (old v : Word) : Word :=
  match op with
  | .normal => v
  | .xorBits => old ^^^ v
  | .setBits => old ||| v
  | .clrBits => old &&& ~~~v

/-- Bit `i` of a word, as a Bool (00_scope.md R11). -/
def bitAt (v : Word) (i : Nat) : Bool := v.getLsbD i

/-- The field `v[lo+w-1:lo]` (00_scope.md R11). -/
def fieldAt (v : Word) (lo w : Nat) : BitVec w := v.extractLsb' lo w

/-- A one-bit field. -/
def bit1 (b : Bool) : BitVec 1 := BitVec.ofBool b

/-- A field at bits `lo` and up of a register's defined bits, zero elsewhere (00_scope.md R11). -/
def place (lo : Nat) (f : BitVec k) : BitVec w := f.setWidth w <<< lo

/-- A field widened to a register word with zeros above (`zext_32`, 00_scope.md R11). -/
def zext (v : BitVec w) : Word := v.setWidth 32

/-! ### I2C0 -/

/-- IC_CON bits 10:0, bit 10 reading 0 (41_i2c_config.md R302). -/
def icConWord (c : IcCon) : BitVec 11 :=
  place 0 (bit1 c.masterMode) ||| place 1 c.speed ||| place 3 (bit1 c.tenBitAddrSlave) |||
    place 4 (bit1 c.tenBitAddrMaster) ||| place 5 (bit1 c.restartEn) ||| place 6 (bit1 c.slaveDisable) |||
    place 7 (bit1 c.stopDetIfAddressed) ||| place 8 (bit1 c.txEmptyCtrl) |||
    place 9 (bit1 c.rxFifoFullHldCtrl)

/-- The legal SPEED a written value stores: 1 as it is, every other value as 2 (41_i2c_config.md R303). -/
def legalSpeed (x : BitVec 2) : BitVec 2 := if x = 1#2 then 1#2 else 2#2

/-- IC_CON from a written word (41_i2c_config.md R303). -/
def icConOfWord (v : Word) : IcCon :=
  { masterMode := bitAt v 0
    speed := legalSpeed (fieldAt v 1 2)
    tenBitAddrSlave := bitAt v 3
    tenBitAddrMaster := bitAt v 4
    restartEn := bitAt v 5
    slaveDisable := bitAt v 6
    stopDetIfAddressed := bitAt v 7
    txEmptyCtrl := bitAt v 8
    rxFifoFullHldCtrl := bitAt v 9 }

/-- IC_TAR bits 11:0 (41_i2c_config.md R304). -/
def icTarWord (t : IcTar) : BitVec 12 :=
  place 0 t.addr ||| place 10 (bit1 t.gcOrStart) ||| place 11 (bit1 t.special)

/-- IC_TAR from a written word (41_i2c_config.md R304). -/
def icTarOfWord (v : Word) : IcTar :=
  { addr := fieldAt v 0 10, gcOrStart := bitAt v 10, special := bitAt v 11 }

/-- An SCL high count from a written word: `max(v[15:0], HCNT_MIN)` (41_i2c_config.md R305). -/
def legalHcnt (v : Word) : BitVec 16 :=
  if fieldAt v 0 16 < Config.hcntMin then Config.hcntMin else fieldAt v 0 16

/-- An SCL low count from a written word: `max(v[15:0], LCNT_MIN)` (41_i2c_config.md R305). -/
def legalLcnt (v : Word) : BitVec 16 :=
  if fieldAt v 0 16 < Config.lcntMin then Config.lcntMin else fieldAt v 0 16

/-- FS_SPKLEN from a written word: `max(v[7:0], SPKLEN_MIN)` (41_i2c_config.md R307). -/
def legalSpklen (v : Word) : BitVec 8 :=
  if fieldAt v 0 8 < Config.spklenMin then Config.spklenMin else fieldAt v 0 8

/-- IC_SDA_HOLD bits 23:0 (41_i2c_config.md R306). -/
def sdaHoldWord (r : I2cRegs) : BitVec 24 := place 0 r.sdaTxHold ||| place 16 r.sdaRxHold

/-- IC_ENABLE bits 2:0 (41_i2c_config.md R324). -/
def icEnableWord (e : IcEnable) : BitVec 3 :=
  place 0 (bit1 e.enable) ||| place 1 (bit1 e.abort) ||| place 2 (bit1 e.txCmdBlock)

/-- The effective counts HCNT_EFF and LCNT_EFF (10_state.md R38). -/
def hcntEff (r : I2cRegs) : BitVec 16 := if r.con.speed = 1#2 then r.ssHcnt else r.fsHcnt
def lcntEff (r : I2cRegs) : BitVec 16 := if r.con.speed = 1#2 then r.ssLcnt else r.fsLcnt

/-- The address byte `{IC_TAR[6:0], rw}` (30_encoding.md R170, 43_i2c_fsm.md R421). -/
def addrByte (r : I2cRegs) (rw : Dir) : Byte :=
  r.tar.addr.setWidth 7 ++ (match rw with | .read => 1#1 | .write => 0#1)

/-! ### Pins and pads -/

/-- GPIOn_CTRL as a word, its `res` bits 0 (10_state.md R68). -/
def pinCtrlWord (c : PinCtrl) : Word :=
  place 0 c.funcsel ||| place 8 c.outover ||| place 12 c.oeover ||| place 16 c.inover ||| place 28 c.irqover

/-- The defined bits of GPIOn_CTRL: 29:28, 17:16, 13:12, 9:8 and 4:0 (10_state.md R68). -/
def pinCtrlDefined : Word := 0x3003331F#32

/-- GPIOn_CTRL from a written word (40_pin_mux.md R231). -/
def pinCtrlOfWord (v : Word) : PinCtrl :=
  { funcsel := fieldAt v 0 5, outover := fieldAt v 8 2, oeover := fieldAt v 12 2,
    inover := fieldAt v 16 2, irqover := fieldAt v 28 2 }

/-- The pad control bits 7:0 (40_pin_mux.md R249). -/
def padWord (p : Pad) : BitVec 8 :=
  place 0 (bit1 p.slewfast) ||| place 1 (bit1 p.schmitt) ||| place 2 (bit1 p.pde) ||| place 3 (bit1 p.pue) |||
    place 4 p.drive ||| place 6 (bit1 p.ie) ||| place 7 (bit1 p.od)

/-- A pad from a written word (40_pin_mux.md R249). -/
def padOfWord (v : Word) : Pad :=
  { slewfast := bitAt v 0, schmitt := bitAt v 1, pde := bitAt v 2, pue := bitAt v 3,
    drive := fieldAt v 4 2, ie := bitAt v 6, od := bitAt v 7 }

/-- The control register of pin `n`. Every pin 0..29 has one; the value past the bank is never used by a
well-formed access. -/
def pinCtrlOf (s : State) (n : Nat) : PinCtrl := (s.io.ctrl[n]?).getD PinCtrl.reset

/-- The pad of pin `n`. -/
def padOf (s : State) (n : Nat) : Pad := (s.pads.pad[n]?).getD Pad.reset

/-- The state with GPIOn_CTRL replaced. -/
def setPinCtrl (s : State) (n : Nat) (c : PinCtrl) : State :=
  { s with io := { s.io with ctrl := s.io.ctrl.setIfInBounds n c } }

/-- The state with pad `n` replaced. -/
def setPad (s : State) (n : Nat) (p : Pad) : State :=
  { s with pads := { s.pads with pad := s.pads.pad.setIfInBounds n p } }

/-! ### Temporaries of the HOST -/

/-- What a temporary holds that no statement has written. -/
def tempDefault : Word := 0

/-- The value of a temporary (30_encoding.md R190). -/
def tempGet (l : List (Nat × Word)) (t : Nat) : Word :=
  match l with
  | [] => tempDefault
  | (k, w) :: rest => if k = t then w else tempGet rest t

/-- Writing a temporary, in canonical form: names strictly rising, no entry equal to the default. -/
def tempSet (l : List (Nat × Word)) (t : Nat) (v : Word) : List (Nat × Word) :=
  match l with
  | [] => if v = tempDefault then [] else [(t, v)]
  | (k, w) :: rest =>
    if t < k then (if v = tempDefault then (k, w) :: rest else (t, v) :: (k, w) :: rest)
    else if t = k then (if v = tempDefault then rest else (t, v) :: rest)
    else (k, w) :: tempSet rest t v

/-- The canonical form of the temporaries: names strictly rising above `lo`, no default value listed. -/
def tempsWfFrom (lo : Nat) (l : List (Nat × Word)) : Bool :=
  match l with
  | [] => true
  | (k, w) :: rest => decide (lo ≤ k) && decide (w ≠ tempDefault) && tempsWfFrom (k + 1) rest

/-- The canonical form of the temporaries. -/
def tempsWf (l : List (Nat × Word)) : Bool := tempsWfFrom 0 l

end Sys2Proof.Machine
end

