-- ==== Sys2Proof/Machine/Flags.lean ====
section
/-! DEFINITION. Flags: the computed bits of IC_STATUS and of the interrupt registers
(42_i2c_data_status.md R361 to R369), the interrupt line (60_exceptions.md R610), and the setting of the
latched bits of RAW (42_i2c_data_status.md R380). -/

namespace Sys2Proof.Machine

/-- MST_ACTIVITY (42_i2c_data_status.md R363). -/
def mstActivity (s : State) : Bool := s.ctrl.owned || s.ctrl.shift.isSome

/-- RX_FULL (42_i2c_data_status.md R361). -/
def rxFull (s : State) : Bool := decide (s.i2c.rxTl.toNat < s.ctrl.rxq.length)

/-- TX_EMPTY (42_i2c_data_status.md R362). -/
def txEmpty (s : State) : Bool :=
  s.ctrl.icEn && decide (s.ctrl.txq.length ≤ s.i2c.txTl.toNat) &&
    (!s.i2c.con.txEmptyCtrl || s.ctrl.shift.isNone)

/-- IC_RAW_INTR_STAT[12:0] (42_i2c_data_status.md R366). -/
def rawIntrStat (s : State) : BitVec 13 :=
  let r := s.ctrl.raw
  place 0 (bit1 r.rxUnder) ||| place 1 (bit1 r.rxOver) ||| place 2 (bit1 (rxFull s)) |||
    place 3 (bit1 r.txOver) ||| place 4 (bit1 (txEmpty s)) ||| place 5 (bit1 r.rdReq) |||
    place 6 (bit1 r.txAbrt) ||| place 7 (bit1 r.rxDone) ||| place 8 (bit1 r.activity) |||
    place 9 (bit1 r.stopDet) ||| place 10 (bit1 r.startDet) ||| place 11 (bit1 r.genCall) |||
    place 12 (bit1 r.restartDet)

/-- IC_INTR_STAT[12:0] (42_i2c_data_status.md R367). -/
def intrStat (s : State) : BitVec 13 := rawIntrStat s &&& s.i2c.intrMask

/-- I2C0_IRQ, the interrupt line, an output that nothing in the model takes (60_exceptions.md R610). -/
def i2c0Irq (s : State) : Bool := decide (intrStat s ≠ 0)

/-- IC_STATUS[6:0], bit 6 (SLV_ACTIVITY) reading 0 (42_i2c_data_status.md R365). -/
def icStatus (s : State) : BitVec 7 :=
  place 0 (bit1 (mstActivity s)) ||| place 1 (bit1 (decide (s.ctrl.txq.length < Config.txDepth))) |||
    place 2 (bit1 (decide (s.ctrl.txq.length = 0))) ||| place 3 (bit1 (decide (0 < s.ctrl.rxq.length))) |||
    place 4 (bit1 (decide (s.ctrl.rxq.length = Config.rxDepth))) ||| place 5 (bit1 (mstActivity s))

/-- IC_ENABLE_STATUS[2:0], bits 2:1 reading 0 (42_i2c_data_status.md R369). -/
def icEnableStatus (s : State) : BitVec 3 := place 0 (bit1 s.ctrl.icEn)

/-- The state with RAW replaced. -/
def setRaw (s : State) (r : RawBits) : State := { s with ctrl := { s.ctrl with raw := r } }

/-- `set_start_det()` (43_i2c_fsm.md R420). -/
def setStartDet (s : State) : State := setRaw s { s.ctrl.raw with startDet := true }

/-- `set_stop_det()` (43_i2c_fsm.md R420). -/
def setStopDet (s : State) : State := setRaw s { s.ctrl.raw with stopDet := true }

end Sys2Proof.Machine
end

