-- ==== Sys2Proof/Machine/Wires.lean ====
section
/-! DEFINITION. The pin multiplexer's combinational part: peripheral outputs, overrides, pad drive, wire
level, input path (40_pin_mux.md R230 to R236, R250), the connection predicates `wired` (R245) and
`i2c_pin_ok` (R270), and what every step ends with: the controller's outputs (43_i2c_fsm.md R445) and the
contention check (40_pin_mux.md R251). A level is computed at a moment `t`, which names the free values
it draws (R236: afresh at every level computation). -/

namespace Sys2Proof.Machine

/-- Pin `n` on FUNCSEL 3 carries an I2C0 signal: `(n >> 1) AND 1 = 0` (40_pin_mux.md R230). -/
def isI2c0Pin (n : Nat) : Bool := n / 2 % 2 == 0

/-- The peripheral output of pin `n` (40_pin_mux.md R233, R236). -/
def outFromPeri (s : State) (t n : Nat) : Bool :=
  let f := (pinCtrlOf s n).funcsel
  if f = 3#5 ∧ isI2c0Pin n then false
  else if f = 5#5 then s.sio.gpioOut.getLsbD n
  else if f = 0x1F#5 then false
  else Config.freeBool t (.periOut n)

/-- The peripheral output enable of pin `n` (40_pin_mux.md R233, R236). -/
def oeFromPeri (s : State) (t n : Nat) : Bool :=
  let f := (pinCtrlOf s n).funcsel
  if f = 3#5 ∧ isI2c0Pin n then (if n % 2 = 0 then s.ctrl.sdaOe else s.ctrl.sclOe)
  else if f = 5#5 then s.sio.gpioOe.getLsbD n
  else if f = 0x1F#5 then false
  else Config.freeBool t (.periOe n)

/-- An override field: 0 the signal, 1 inverted, 2 low, 3 high (40_pin_mux.md R234, R235). -/
def overridden (o : BitVec 2) (x : Bool) : Bool :=
  if o = 0#2 then x else if o = 1#2 then !x else if o = 2#2 then false else true

/-- `outtopad(n)` (40_pin_mux.md R234). -/
def outToPad (s : State) (t n : Nat) : Bool :=
  overridden (pinCtrlOf s n).outover (outFromPeri s t n)

/-- `oetopad(n)` (40_pin_mux.md R234). -/
def oeToPad (s : State) (t n : Nat) : Bool :=
  overridden (pinCtrlOf s n).oeover (oeFromPeri s t n)

/-- `drives(n)`: the pad drives the pin to `outtopad(n)` (40_pin_mux.md R234). -/
def drives (s : State) (t n : Nat) : Bool := oeToPad s t n && !(padOf s n).od

/-- The environment's drive of pin `n`'s node: on the SDA and SCL wires only (40_pin_mux.md R250). -/
def envLow (s : State) (n : Nat) : Bool :=
  (n == Config.sdaPin && s.wires.envSdaLow) || (n == Config.sclPin && s.wires.envSclLow)

/-- The external pull-up flag of pin `n`'s node (40_pin_mux.md R250). -/
def extPullup (n : Nat) : Bool :=
  (n == Config.sdaPin && Config.extPullupSda) || (n == Config.sclPin && Config.extPullupScl)

/-- Something drives the node low (40_pin_mux.md R250). -/
def nodeLow (s : State) (t n : Nat) : Bool := (drives s t n && !outToPad s t n) || envLow s n

/-- The pad drives the node high (40_pin_mux.md R250). -/
def nodeHigh (s : State) (t n : Nat) : Bool := drives s t n && outToPad s t n

/-- The node is driven low and high at once: `Fault(CONTENTION)` (40_pin_mux.md R250). -/
def contends (s : State) (t n : Nat) : Bool := nodeLow s t n && nodeHigh s t n

/-- The level of pin `n`'s node (40_pin_mux.md R250). -/
def level (s : State) (t n : Nat) : Bool :=
  let p := padOf s n
  let e := extPullup n
  if contends s t n then Config.freeBool t (.level n)
  else if nodeLow s t n then false
  else if nodeHigh s t n then true
  else if p.pue && p.pde then Config.freeBool t (.level n)
  else if (p.pue || e) && !p.pde then true
  else if p.pde && !e then false
  else Config.freeBool t (.level n)

/-- SDA_LEVEL and SCL_LEVEL (10_state.md R73). -/
def sdaLevel (s : State) (t : Nat) : Bool := level s t Config.sdaPin
def sclLevel (s : State) (t : Nat) : Bool := level s t Config.sclPin

/-- `infrompad(n)` (40_pin_mux.md R235). -/
def inFromPad (s : State) (t n : Nat) : Bool := if (padOf s n).ie then level s t n else false

/-- `intoperi(n)` (40_pin_mux.md R235). -/
def inToPeri (s : State) (t n : Nat) : Bool :=
  overridden (pinCtrlOf s n).inover (inFromPad s t n)

/-- Pin `n` selects the I2C0 signal of parity `par`: 0 for SDA, 1 for SCL (40_pin_mux.md R230). -/
def selectsI2c0 (s : State) (par n : Nat) : Bool :=
  (pinCtrlOf s n).funcsel == 3#5 && isI2c0Pin n && n % 2 == par

/-- The controller's SDA (`par` = 0) or SCL (`par` = 1) input: `intoperi` of the pin that selects the
signal, a free value where none does (40_pin_mux.md R235). No functional rule reads it. -/
def i2cInput (s : State) (t par : Nat) : Bool :=
  match (List.range Config.nGpio).find? (selectsI2c0 s par) with
  | some n => inToPeri s t n
  | none => Config.freeBool t (if par = 0 then .sdaIn else .sclIn)

/-- Some other pin than `n` selects the I2C0 signal of `n`'s parity (40_pin_mux.md R231). -/
def otherPinSelects (s : State) (n : Nat) : Bool :=
  (List.range Config.nGpio).any (fun m => m != n && selectsI2c0 s (n % 2) m)

/-- Conditions (1) to (3) of 40_pin_mux.md R245 for one of the two pins. -/
def pinConnected (s : State) (n : Nat) : Bool :=
  (pinCtrlOf s n).funcsel == 3#5 && (pinCtrlOf s n).outover == 0#2 && (pinCtrlOf s n).oeover == 0#2 &&
    (pinCtrlOf s n).inover == 0#2 && !(padOf s n).od && (padOf s n).ie

/-- Condition (4) of 40_pin_mux.md R245: a pull-up and no pull-down on the wire of pin `n`. -/
def pulledUp (s : State) (n : Nat) : Bool :=
  ((padOf s n).pue && !(padOf s n).pde) || (extPullup n && !(padOf s n).pde)

/-- The bus connection predicate (40_pin_mux.md R245). -/
def wired (s : State) : Bool :=
  pinConnected s Config.sdaPin && pinConnected s Config.sclPin &&
    pulledUp s Config.sdaPin && pulledUp s Config.sclPin &&
    !otherPinSelects s Config.sdaPin && !otherPinSelects s Config.sclPin

/-- `i2c_pin_ok(n)` (40_pin_mux.md R270). -/
def i2cPinOk (s : State) (n : Nat) : Bool :=
  pinConnected s n && (padOf s n).pue && !(padOf s n).pde

/-- `raise Fault(f)`: the mark is recorded and the run goes on (10_state.md R74, 00_scope.md R12). -/
def raiseFault (f : Fault) (s : State) : State :=
  { s with marks := { s.marks with faulted := s.marks.faulted ++ [f] } }

/-- The contention check of one node at a moment (40_pin_mux.md R250, R251). -/
def checkNode (t n : Nat) (s : State) : State :=
  if contends s t n then raiseFault .contention s else s

/-- The controller's outputs after a step (43_i2c_fsm.md R445): released unless it is enabled and owns the
bus, SCL held low and SDA unsettled while it does. -/
def settleOutputs (s : State) : State :=
  if s.ctrl.icEn && s.ctrl.owned then
    { s with ctrl := { s.ctrl with sclOe := true, sdaOe := Config.freeBool s.draws .sdaOe } }
  else { s with ctrl := { s.ctrl with sclOe := false, sdaOe := false } }

/-- What every step of every agent ends with: the outputs of 43_i2c_fsm.md R445, then the contention check
of both wire nodes (40_pin_mux.md R251), at one moment. -/
def settle (s : State) : State :=
  let o := settleOutputs s
  let c := checkNode s.draws Config.sclPin (checkNode s.draws Config.sdaPin o)
  { c with draws := s.draws + 1 }

end Sys2Proof.Machine
end

