-- ==== Sys2Proof/Machine/Timing.lean ====
section
/-! DEFINITION. The clock divider and the cycle-level refinement: the SCL waveform
(41_i2c_config.md R340), the host's divider formula and the timing property (R342, R343), the bits
that an event puts on SDA (30_encoding.md R172), the segments of the events of one step
(70_reset_and_hazards.md R731, R732, R736) and one controller-clock cycle of SCL, SDA, `phase` and `cnt`
(R730, R732, R735). No functional rule reads `phase`, `cnt`, `segments`, `sdaLine` or `sdaDue`
(10_state.md R66). -/

namespace Sys2Proof.Machine

/-! ### The divider -/

/-- The SCL low and high phases in cycles for given extras (41_i2c_config.md R340). -/
def sclLowCycles (r : I2cRegs) (lowExtra : Nat) : Nat := (lcntEff r).toNat + lowExtra
def sclHighCycles (r : I2cRegs) (highExtra : Nat) : Nat := (hcntEff r).toNat + highExtra

/-- The SCL period in cycles (41_i2c_config.md R340): f_SCL is F_IC_CLK divided by it. -/
def sclPeriodCycles (r : I2cRegs) (highExtra lowExtra : Nat) : Nat :=
  sclHighCycles r highExtra + sclLowCycles r lowExtra

/-- The extras of a chip-faithful timing model: (high, low) = (SPKLEN + 7, 1)
(70_reset_and_hazards.md R733). -/
def chipExtras (r : I2cRegs) : Nat × Nat := (r.fsSpklen.toNat + 7, 1)

/-- Standard mode for targets up to 100 kHz (41_i2c_config.md R341). -/
def usesStandardMode (f : Nat) : Bool := decide (f ≤ 100000)

/-- What the divider formula gives (41_i2c_config.md R342). -/
structure Divider where
  period : Nat
  hcnt : Nat
  lcnt : Nat
  spklen : Nat
  hold : Nat
deriving DecidableEq, Repr, Inhabited

/-- The divider formula the host uses, for controller clock `F` and target `f` in Hz
(41_i2c_config.md R342). -/
def divider (F f : Nat) : Divider :=
  let period := (F + f / 2) / f
  let lcnt := period * 3 / 5
  { period := period
    hcnt := period - lcnt
    lcnt := lcnt
    spklen := if lcnt < 16 then 1 else lcnt / 16
    hold := F * 3 / 10000000 + 1 }

/-- `valid` of the divider formula (41_i2c_config.md R342). -/
def Divider.valid (d : Divider) : Bool :=
  decide (8 ≤ d.hcnt) && decide (8 ≤ d.lcnt) && decide (d.hcnt ≤ 0xFFFF) && decide (d.lcnt ≤ 0xFFFF) &&
    decide (d.spklen + 5 < d.hcnt) && decide (d.spklen + 7 < d.lcnt) && decide (d.hold + 2 < d.lcnt)

/-- `timing_ok(F)` over the programmed counts, its exact rational inequalities multiplied out
(41_i2c_config.md R343): `|(H + L) - F/400000| <= 1`, `H/F >= 0.6e-6`, `L/F >= 1.3e-6`. -/
def timingOk (F : Nat) (r : I2cRegs) : Bool :=
  let h := (hcntEff r).toNat
  let l := (lcntEff r).toNat
  decide ((h + l) * 400000 ≤ F + 400000) && decide (F ≤ (h + l) * 400000 + 400000) &&
    decide (6 * F ≤ h * 10000000) && decide (13 * F ≤ l * 10000000)

/-! ### What SDA carries -/

/-- Nobody pulls SDA low. -/
def sdaReleased : SdaDrive := { ctrlLow := some false, targetLow := some false }

/-- No rule says who pulls SDA low. -/
def sdaOpen : SdaDrive := { ctrlLow := none, targetLow := none }

/-- A bit that the controller sends, and one that the target sends: low for 0, released for 1, by the sender
alone (30_encoding.md R172). -/
def ctrlBit (b : Bool) : SdaDrive := { sdaReleased with ctrlLow := some (!b) }
def targetBit (b : Bool) : SdaDrive := { sdaReleased with targetLow := some (!b) }

/-- A byte as its bits go on the wire: most significant first (30_encoding.md R172). -/
def byteBits (b : Byte) : List Bool := [7, 6, 5, 4, 3, 2, 1, 0].map (fun i => b.getLsbD i)

/-- A byte that the controller sends and its ACK slot, where the target pulls SDA low for ACK and leaves it
high for NACK (30_encoding.md R172). Where arbitration was lost, no rule says from which bit on SDA is the
winner's (log entry 17). -/
def sentByte (b : Byte) : Answer → List SdaDrive
  | .ack => (byteBits b).map ctrlBit ++ [targetBit false]
  | .nack => (byteBits b).map ctrlBit ++ [targetBit true]
  | .lost => List.replicate 9 sdaOpen

/-- Who pulls SDA low in each SCL period of an event, in order (30_encoding.md R172, 70_reset_and_hazards.md
R736). -/
def wireBits : BusEvent → List SdaDrive
  | .addr a ans => sentByte a ans
  | .tx d ans => sentByte d ans
  | .rx d => (byteBits d).map targetBit
  | .mack => [ctrlBit false]
  | .mnack => [ctrlBit true]
  | .start => []
  | .restart => []
  | .stop => []
  | .envStart => []
  | .envStop => []

/-- The SCL periods one event takes (70_reset_and_hazards.md R736). -/
def eventPeriods : BusEvent → Nat
  | .addr _ _ => 9
  | .tx _ _ => 9
  | .rx _ => 8
  | .mack => 1
  | .mnack => 1
  | .start => 0
  | .restart => 0
  | .stop => 0
  | .envStart => 0
  | .envStop => 0

/-! ### The segments of a step -/

/-- One SCL period for each bit: LOW then HIGH (70_reset_and_hazards.md R732). -/
def bitSegments (h l : Nat) : List SdaDrive → List Segment
  | [] => []
  | d :: rest =>
    ⟨.low, some (l + Config.sclLowExtra), some d⟩ :: ⟨.high, some (h + Config.sclHighExtra), some d⟩ ::
      bitSegments h l rest

/-- The segments of one event, with H = `h` and L = `l` (70_reset_and_hazards.md R731, R732, R736). R731
states no duration for the IDLE that begins a START or ends a STOP, nor for the LOW that begins a RESTART
(SDA released) or a STOP (SDA driven low). The LOW that ends a START or a RESTART is that of the next bit. -/
def eventSegments (h l : Nat) : BusEvent → List Segment
  | .start => [⟨.idle, none, none⟩, ⟨.startHold, some h, none⟩]
  | .restart => [⟨.low, none, some sdaReleased⟩, ⟨.high, some h, some sdaReleased⟩, ⟨.startHold, some h, none⟩]
  | .stop =>
    [⟨.low, none, some (ctrlBit false)⟩, ⟨.stopSetup, some h, none⟩, ⟨.busFree, some l, none⟩, ⟨.idle, none, none⟩]
  | .addr a ans => bitSegments h l (wireBits (.addr a ans))
  | .tx d ans => bitSegments h l (wireBits (.tx d ans))
  | .rx d => bitSegments h l (wireBits (.rx d))
  | .mack => bitSegments h l (wireBits .mack)
  | .mnack => bitSegments h l (wireBits .mnack)
  | .envStart => []
  | .envStop => []

/-- The cycles from the fall of SCL to the controller's change of SDA (70_reset_and_hazards.md R732). -/
def sdaChangeCycles (r : I2cRegs) : Nat := r.sdaTxHold.toNat

/-- The count a segment starts with; where R731 states no duration it is a free value of the moment. -/
def segmentCount (t : Nat) (g : Segment) : BitVec 16 :=
  match g.cycles with
  | some k => BitVec.ofNat 16 k
  | none => Config.freeCycles t

/-! ### The wires of a cycle -/

/-- Whether a phase drives SCL low: LOW does, every other phase releases it (70_reset_and_hazards.md R730). -/
def phaseSclLow : Phase → Bool
  | .idle => false
  | .startHold => false
  | .low => true
  | .high => false
  | .stopSetup => false
  | .busFree => false

/-- SDA in a phase that fixes it: low in START_HOLD and STOP_SETUP, released in IDLE and BUS_FREE. None in
LOW and HIGH, which carry a bit or a RESTART's or STOP's level (70_reset_and_hazards.md R730, R731, R732). -/
def phaseSda : Phase → Option SdaDrive
  | .idle => some sdaReleased
  | .startHold => some (ctrlBit false)
  | .low => none
  | .high => none
  | .stopSetup => some (ctrlBit false)
  | .busFree => some sdaReleased

/-- Who pulls SDA low in this cycle. -/
def sdaNow (c : Ctrl) : SdaDrive := (phaseSda c.phase).getD c.sdaLine

/-- A drive with what no rule says taken as the free value of a moment. -/
def settledDrive (t : Nat) (d : SdaDrive) : SdaDrive :=
  { ctrlLow := some (d.ctrlLow.getD (Config.freeBool t .sdaCycle))
    targetLow := some (d.targetLow.getD (Config.freeBool t .sdaTarget)) }

/-- The state with the wires driven as this cycle drives them: the controller's outputs, and the target's pull
on SDA beside BUSENV's own (70_reset_and_hazards.md R730, R732). Between steps the outputs are those of
43_i2c_fsm.md R445, which `sdaOe` and `sclOe` hold. -/
def cycleOutputs (s : State) : State :=
  let d := sdaNow s.ctrl
  { s with
    ctrl := { s.ctrl with
      sclOe := phaseSclLow s.ctrl.phase
      sdaOe := d.ctrlLow.getD (Config.freeBool s.draws .sdaCycle) }
    wires := { s.wires with
      envSdaLow := s.wires.envSdaLow || d.targetLow.getD (Config.freeBool s.draws .sdaTarget) } }

/-- The wires of this cycle (70_reset_and_hazards.md R730, 40_pin_mux.md R250). -/
def cycleSclLevel (s : State) : Bool := sclLevel (cycleOutputs s) s.draws
def cycleSdaLevel (s : State) : Bool := sdaLevel (cycleOutputs s) s.draws

/-- The bit that the controller samples in HIGH: its SDA input (70_reset_and_hazards.md R732, 40_pin_mux.md
R235). No functional rule reads it (10_state.md R66). -/
def sdaSample (s : State) : Bool := i2cInput (cycleOutputs s) s.draws 0

/-! ### One cycle -/

/-- SDA after one more cycle of a phase: in LOW the change that is due comes nearer, or takes place; in every
other phase SDA stays as it is (30_encoding.md R172, 70_reset_and_hazards.md R732). -/
def sdaTick (c : Ctrl) : SdaDrive × Option SdaChange :=
  match c.phase, c.sdaDue with
  | .low, some ch =>
    if ch.after ≤ 1 then ({ c.sdaLine with ctrlLow := ch.ctrlLow }, none)
    else (c.sdaLine, some { ch with after := ch.after - 1 })
  | _, due => (c.sdaLine, due)

/-- The cycles from the entry of a LOW to the controller's change of SDA: `hold` where SCL falls now, what is
left of it where SCL was low already, while the controller waited for a command (70_reset_and_hazards.md
R732, R735). -/
def holdLeft (hold : Nat) (c : Ctrl) : Nat :=
  match c.phase with
  | .low => (c.sdaDue.map (fun ch => ch.after - 1)).getD 0
  | _ => hold

/-- SDA as a phase begins (70_reset_and_hazards.md R730, R731, R732). In LOW the controller's drive changes
when its hold time has passed, and the target's at a moment of the LOW that no rule gives. In every other
phase SDA is settled for as long as the phase lasts. -/
def enterSda (t hold : Nat) (g : Segment) (c : Ctrl) : SdaDrive × Option SdaChange :=
  let d := ((phaseSda g.phase).or g.sda).getD sdaOpen
  if g.phase = .low then
    let target := if (sdaNow c).targetLow = d.targetLow then d.targetLow else none
    if holdLeft hold c = 0 then ({ ctrlLow := d.ctrlLow, targetLow := target }, none)
    else ({ ctrlLow := (sdaNow c).ctrlLow, targetLow := target },
      some { after := holdLeft hold c, ctrlLow := d.ctrlLow })
  else (settledDrive t d, none)

/-- A segment begins, with others to come. -/
def enterSegment (g : Segment) (rest : List Segment) (s : State) : State :=
  let d := enterSda s.draws (sdaChangeCycles s.i2c) g s.ctrl
  { s with ctrl := { s.ctrl with
      phase := g.phase, cnt := segmentCount s.draws g, segments := rest, sdaLine := d.1, sdaDue := d.2 } }

/-- Where nothing is left to send: LOW with its count stopped while the bus is held, SDA unsettled
(70_reset_and_hazards.md R735, 43_i2c_fsm.md R445), else IDLE. -/
def restSegment (s : State) : Segment :=
  if s.ctrl.owned then ⟨.low, some 0, some sdaOpen⟩ else ⟨.idle, some 0, none⟩

/-- The phase to enter when a count has run out. -/
def enterNextPhase (s : State) : State :=
  match s.ctrl.segments with
  | g :: rest => enterSegment g rest s
  | [] => enterSegment (restSegment s) [] s

/-- Whether an event gives the bus to another master, by its own START (some false) or by the controller's loss
of arbitration (some true), 43_i2c_fsm.md R434, R440. -/
def busTaker : BusEvent → Option Bool
  | .envStart => some false
  | .addr _ .lost => some true
  | .tx _ .lost => some true
  | _ => none

/-- Another master holds the bus against a START that is still to begin (70_reset_and_hazards.md R731). The
winner of a byte that the controller lost holds it from that byte on, so it does not hold up the START of the
transfer that the byte belongs to. -/
def anotherHolds (s : State) : Bool :=
  s.wires.otherBusy && s.trace.reverse.findSome? (fun e => busTaker e.event) != some true

/-- The IDLE of a START, with START_HOLD to come. -/
def startDue (c : Ctrl) : Bool := c.phase == .idle && c.segments.head?.map Segment.phase == some .startHold

/-- "A START is not begun while the SCL or SDA wire reads 0 or another master holds the bus"
(70_reset_and_hazards.md R731). -/
def startWaits (s : State) : Bool :=
  startDue s.ctrl && (!cycleSclLevel s || !cycleSdaLevel s || anotherHolds s)

/-- One controller-clock cycle (70_reset_and_hazards.md R730): in HIGH the count waits while SCL reads 0;
otherwise it counts down, and at 0 the phase changes, from IDLE to START_HOLD only where a START may begin
(R731). -/
def clockTick (s : State) : State :=
  if s.ctrl.phase = .high ∧ cycleSclLevel s = false then s
  else if 1 < s.ctrl.cnt.toNat then
    let d := sdaTick s.ctrl
    { s with ctrl := { s.ctrl with cnt := s.ctrl.cnt - 1, sdaLine := d.1, sdaDue := d.2 } }
  else if startWaits s then s
  else enterNextPhase s

end Sys2Proof.Machine
end

