-- ==== Sys2Proof/Machine/Ops.lean ====
section
/-! DEFINITION. The shared operations: refusing an access, admitting an access to a block, answering a
read, resetting a block, emitting an event, taking the environment's answers, and an abort as one
operation (`abortEntry`, 60_exceptions.md R606) with its end beside it (`clearAbortSource`, R607). Every
meaning is built from these. -/

namespace Sys2Proof.Machine

/-! ### Refusals and admitted accesses -/

/-- `raise Refuse(r)`: the run is marked and nothing else changes (10_state.md R74, 60_exceptions.md
R603). -/
def refuse (r : Reason) (s : State) : State :=
  { s with marks := { s.marks with refused := s.marks.refused ++ [r] } }

/-- The RESETS bits of the blocks in scope (10_state.md R67). -/
def i2cBit : Nat := 3
def ioBit : Nat := 5
def padsBit : Nat := 8

/-- An access to a block: refused unless the block's RESET_DONE bit is 1 (20_memory.md R111). -/
def inBlock (b : Nat) (f : State → State) (s : State) : State :=
  if s.resets.done.getLsbD b then f s else refuse .blockInReset s

/-- The write gate of the WG registers: no effect while enabled (41_i2c_config.md R301). -/
def gated (f : State → State) (s : State) : State := if s.ctrl.icEn then s else f s

/-- A write admitted only while disabled, refused otherwise (41_i2c_config.md R306). -/
def whileDisabled (f : State → State) (s : State) : State :=
  if s.ctrl.icEn then refuse .configWhileEnabled s else f s

/-! ### Answering a read -/

/-- `MemRead` returns `v`. -/
def respond (v : Word) (s : State) : State :=
  { s with host := { s.host with readData := some v } }

/-- `MemRead` returns `v` in the bits `defined` and a fresh free value in every other bit
(20_memory.md R102). -/
def respondMasked (defined v : Word) (s : State) : State :=
  { respond ((v &&& defined) ||| (Config.freeWord s.draws &&& ~~~defined)) s with
    draws := s.draws + 1 }

/-- `MemRead` returns `{draw, v}`: a field of `w` bits at bit 0, a free value above it. -/
def respondLow (v : BitVec w) (s : State) : State :=
  respondMasked ((BitVec.allOnes w).setWidth 32) (zext v) s

/-- `MemRead` returns `draw(32 bits)`. -/
def respondFree (s : State) : State := respondMasked 0 0 s

/-! ### Resets (40_pin_mux.md R204) -/

/-- `enter_reset(i)` for a block in scope: the block's whole state at its reset values. -/
def resetBlock (i : Nat) (s : State) : State :=
  if i = i2cBit then { s with i2c := I2cRegs.reset, ctrl := Ctrl.reset }
  else if i = ioBit then { s with io := IoBank.reset }
  else if i = padsBit then { s with pads := PadsBank.reset }
  else s

/-- `enter_reset(i)` where a written bit rises (40_pin_mux.md R201). -/
def resetIfRising (v : BitVec 25) (i : Nat) (s : State) : State :=
  if v.getLsbD i && !s.resets.reset.getLsbD i then resetBlock i s else s

/-- The write of RESETS.RESET (40_pin_mux.md R201): every rising bit enters reset and its RESET_DONE bit
falls; a falling bit releases and leaves RESET_DONE as it is. -/
def writeResets (v : BitVec 25) (s : State) : State :=
  let b := resetIfRising v padsBit (resetIfRising v ioBit (resetIfRising v i2cBit s))
  { b with resets := { s.resets with reset := v, done := s.resets.done &&& ~~~(v &&& ~~~s.resets.reset) } }

/-! ### The bus -/

/-- `emit(ev)` for an event of the environment (43_i2c_fsm.md R420): TRACE grows, with the flag `wired`. -/
def emitEnv (ev : BusEvent) (s : State) : State :=
  { s with trace := s.trace ++ [⟨ev, wired s⟩] }

/-- `emit(ev)` for an event of the controller (43_i2c_fsm.md R420), with its cycle-level segments
(70_reset_and_hazards.md R731, R732). -/
def emit (ev : BusEvent) (s : State) : State :=
  { s with
    trace := s.trace ++ [⟨ev, wired s⟩]
    ctrl := { s.ctrl with segments :=
      s.ctrl.segments ++ eventSegments (hcntEff s.i2c).toNat (lcntEff s.i2c).toNat ev } }

/-- `answer(byte)` (43_i2c_fsm.md R420): BUSENV's next scripted answer; a free one where the script is
empty, and always where the step is not wired (R446). -/
def takeAnswer (s : State) : Answer × State :=
  if wired s then
    match s.script.answers with
    | a :: rest => (a, { s with script := { s.script with answers := rest } })
    | [] => (Config.freeAnswer s.draws, { s with draws := s.draws + 1 })
  else (Config.freeAnswer s.draws, { s with draws := s.draws + 1 })

/-- `read_byte()` (43_i2c_fsm.md R420), in the same way. -/
def takeByte (s : State) : Byte × State :=
  if wired s then
    match s.script.bytes with
    | d :: rest => (d, { s with script := { s.script with bytes := rest } })
    | [] => (Config.freeByte s.draws, { s with draws := s.draws + 1 })
  else (Config.freeByte s.draws, { s with draws := s.draws + 1 })

/-! ### Aborts -/

/-- The abort causes in scope (60_exceptions.md R602). -/
inductive AbortSource where
  | addrNoack
  | txDataNoack
  | arbLost
  | userAbort
deriving DecidableEq, Repr, Inhabited

/-- The bit of IC_TX_ABRT_SOURCE a cause sets (60_exceptions.md R602). -/
def AbortSource.code : AbortSource → Nat
  | .addrNoack => 0
  | .txDataNoack => 3
  | .arbLost => 12
  | .userAbort => 16

/-- Taking an abort (60_exceptions.md R606): the cause bit is set, the others kept; TX_FLUSH_CNT counts
the queued commands; TXQ is emptied and held; TX_ABRT is set; the command in hand is dropped and the bus
is no longer owned. -/
def abortEntry (src : AbortSource) (s : State) : State :=
  { s with
    i2c := { s.i2c with
      abrtSource := s.i2c.abrtSource ||| (1#17 <<< src.code)
      txFlushCnt := BitVec.ofNat 9 s.ctrl.txq.length }
    ctrl := { s.ctrl with
      txq := []
      shift := none
      owned := false
      rxAckPending := false
      flushHold := true
      raw := { s.ctrl.raw with txAbrt := true } } }

/-- `abort_bus(src, send_stop)` (43_i2c_fsm.md R434): a NACK ends the transfer with STOP, a loss leaves
the bus to the winner. -/
def abortBus (src : AbortSource) (sendStop : Bool) (s : State) : State :=
  let t := abortEntry src s
  if sendStop then setStopDet (emit .stop t)
  else { t with wires := { t.wires with otherBusy := true } }

/-- `clear_abort_source()` (42_i2c_data_status.md R375), which ends the abort state (60_exceptions.md
R607): TX_FLUSH_CNT becomes a free value. -/
def clearAbortSource (s : State) : State :=
  { s with
    i2c := { s.i2c with abrtSource := 0, txFlushCnt := Config.freeFlushCnt s.draws }
    ctrl := { s.ctrl with flushHold := false }
    draws := s.draws + 1 }

end Sys2Proof.Machine
end

