-- ==== Sys2Proof/Machine/Cmdw.lean ====
section
/-! DEFINITION. The controller commands: S_XFER, performing the command in hand (43_i2c_fsm.md R429 to R435). A
command class of spec/opcode_table.json is an instruction of the controller; its guard is part of its
meaning, and where the guard is false the step is not enabled and nothing changes (00_scope.md R12). -/

namespace Sys2Proof.Machine

/-- "Every guard includes `CTRLST.ic_en = true` and `RESETS.RESET[3] = 0`" (43_i2c_fsm.md). -/
def ctrlLive (s : State) : Bool := s.ctrl.icEn && !s.resets.reset.getLsbD i2cBit

/-- The guard of S_XFER(c) (43_i2c_fsm.md R429): the command is in hand, no abort is requested, the
environment does not hold SCL, the bus is owned or free, and a read has room or may lose its byte. -/
def xferEnabled (c : Cmd) (s : State) : Bool :=
  ctrlLive s && !s.i2c.enable.abort && decide (s.ctrl.shift = some c) && !s.wires.envSclLow &&
    (s.ctrl.owned || (!s.wires.otherBusy && !s.wires.envSdaLow)) &&
    !(c.cmd && s.i2c.con.rxFifoFullHldCtrl && decide (s.ctrl.rxq.length = Config.rxDepth))

/-- The direction of a command (43_i2c_fsm.md R429). -/
def cmdDir (c : Cmd) : Dir := if c.cmd then .read else .write

/-- The pending ACK slot of a received byte: MACK where the command goes on reading, MNACK otherwise
(43_i2c_fsm.md R427). -/
def sendPendingAck (c : Cmd) (s : State) : State :=
  if s.ctrl.rxAckPending then
    let t := emit (if c.cmd && !c.restart && decide (s.ctrl.dir = .read) then .mack else .mnack) s
    { t with ctrl := { t.ctrl with rxAckPending := false } }
  else s

/-- RESTART, or STOP then START where restarts are disabled (43_i2c_fsm.md R432). -/
def restartBus (s : State) : State :=
  if s.i2c.con.restartEn then setStartDet (emit .restart s)
  else setStartDet (emit .start (setStopDet (emit .stop s)))

/-- The opening of S_XFER: START of a new transfer, or the pending ACK slot and a restart; the Bool says
whether an address phase follows (43_i2c_fsm.md R429, R430, R432). -/
def openPhase (c : Cmd) (s : State) : Bool × State :=
  if s.ctrl.owned then
    let t := sendPendingAck c s
    if c.restart || decide (cmdDir c ≠ t.ctrl.dir) then (true, restartBus t) else (false, t)
  else
    let t := setStartDet (emit .start s)
    (true, { t with ctrl := { t.ctrl with owned := true } })

/-- The address phase (43_i2c_fsm.md R430): the direction is taken, the address byte sent, its answer
seen. -/
def addressPhase (c : Cmd) (s : State) : Answer × State :=
  let t := { s with ctrl := { s.ctrl with dir := cmdDir c } }
  let a := takeAnswer t
  (a.1, emit (.addr (addrByte s.i2c (cmdDir c)) a.1) a.2)

/-- The end of a command that completes: STOP where it asks for one (43_i2c_fsm.md R435). -/
def finishCmd (c : Cmd) (s : State) : State :=
  let t :=
    if c.stop then
      let p := if s.ctrl.rxAckPending then emit .mnack s else s
      let q := setStopDet (emit .stop { p with ctrl := { p.ctrl with rxAckPending := false } })
      { q with ctrl := { q.ctrl with owned := false } }
    else s
  { t with ctrl := { t.ctrl with shift := none } }

/-- The write data phase (43_i2c_fsm.md R431). -/
def writePhase (c : Cmd) (s : State) : State :=
  let a := takeAnswer s
  let t := emit (.tx c.dat a.1) a.2
  match a.1 with
  | .ack => finishCmd c t
  | .nack => abortBus .txDataNoack true t
  | .lost => abortBus .arbLost false t

/-- A received byte enters RXQ, or is lost with RX_OVER where RXQ is full (43_i2c_fsm.md R433). -/
def receive (d : Byte) (s : State) : State :=
  if s.ctrl.rxq.length < Config.rxDepth then { s with ctrl := { s.ctrl with rxq := s.ctrl.rxq ++ [d] } }
  else setRaw s { s.ctrl.raw with rxOver := true }

/-- The read data phase (43_i2c_fsm.md R433). -/
def readPhase (c : Cmd) (s : State) : State :=
  let d := takeByte s
  let t := receive d.1 (emit (.rx d.1) d.2)
  finishCmd c { t with ctrl := { t.ctrl with rxAckPending := true } }

/-- The data phase of a command (43_i2c_fsm.md R429). -/
def dataPhase (c : Cmd) (s : State) : State := if c.cmd then readPhase c s else writePhase c s

/-- The effect of S_XFER(c) (43_i2c_fsm.md R429). -/
def xfer (c : Cmd) (s : State) : State :=
  let o := openPhase c s
  if o.1 then
    let a := addressPhase c o.2
    match a.1 with
    | .ack => dataPhase c a.2
    | .nack => abortBus .addrNoack true a.2
    | .lost => abortBus .arbLost false a.2
  else dataPhase c o.2

/-- S_XFER(c): its effect where it is enabled, no step otherwise. -/
def performCmd (c : Cmd) (s : State) : State := if xferEnabled c s then xfer c s else s

/-- CMDW.W (30_encoding.md R160), performed by 43_i2c_fsm.md R429. -/
def execCmdW (dat : Byte) (s : State) : Host.Outcome State Fault Refusal :=
  .next (performCmd { cmd := false, stop := false, restart := false, dat := dat } s)

/-- CMDW.R (30_encoding.md R160), performed by 43_i2c_fsm.md R429. -/
def execCmdR (dat : Byte) (s : State) : Host.Outcome State Fault Refusal :=
  .next (performCmd { cmd := true, stop := false, restart := false, dat := dat } s)

/-- CMDW.W.STOP (30_encoding.md R160), performed by 43_i2c_fsm.md R429. -/
def execCmdWStop (dat : Byte) (s : State) : Host.Outcome State Fault Refusal :=
  .next (performCmd { cmd := false, stop := true, restart := false, dat := dat } s)

/-- CMDW.R.STOP (30_encoding.md R160), performed by 43_i2c_fsm.md R429. -/
def execCmdRStop (dat : Byte) (s : State) : Host.Outcome State Fault Refusal :=
  .next (performCmd { cmd := true, stop := true, restart := false, dat := dat } s)

/-- CMDW.W.RESTART (30_encoding.md R160), performed by 43_i2c_fsm.md R429. -/
def execCmdWRestart (dat : Byte) (s : State) : Host.Outcome State Fault Refusal :=
  .next (performCmd { cmd := false, stop := false, restart := true, dat := dat } s)

/-- CMDW.R.RESTART (30_encoding.md R160), performed by 43_i2c_fsm.md R429. -/
def execCmdRRestart (dat : Byte) (s : State) : Host.Outcome State Fault Refusal :=
  .next (performCmd { cmd := true, stop := false, restart := true, dat := dat } s)

/-- CMDW.W.RESTART.STOP (30_encoding.md R160), performed by 43_i2c_fsm.md R429. -/
def execCmdWRestartStop (dat : Byte) (s : State) : Host.Outcome State Fault Refusal :=
  .next (performCmd { cmd := false, stop := true, restart := true, dat := dat } s)

/-- CMDW.R.RESTART.STOP (30_encoding.md R160), performed by 43_i2c_fsm.md R429. -/
def execCmdRRestartStop (dat : Byte) (s : State) : Host.Outcome State Fault Refusal :=
  .next (performCmd { cmd := true, stop := true, restart := true, dat := dat } s)

end Sys2Proof.Machine
end

