-- ==== Sys2Proof/WellFormed.lean ====
section
/-! DEFINITION. Well-formedness of an instruction: the one constraint of spec/opcode_table.json that the
types do not carry, `n <= 29` on the pin index of the GPIO families (30_encoding.md R152, R162). Every
value of every other operand is admitted (30_encoding.md R154, R160). -/

namespace Sys2Proof

/-- A pin index of bank 0 (00_scope.md R9: GPIO0..GPIO29). -/
def pinOk (n : BitVec 5) : Bool := decide (n.toNat ≤ 29)

/-- Whether an instruction is one the encoding admits. -/
def Instr.wf : Instr → Bool
  | .rdIcCon => true
  | .wrIcCon _ _ => true
  | .rdIcTar => true
  | .wrIcTar _ _ => true
  | .rdIcSar => true
  | .wrIcSar _ _ => true
  | .rdIcDataCmd => true
  | .wrIcDataCmd _ => true
  | .rdIcSsSclHcnt => true
  | .wrIcSsSclHcnt _ _ => true
  | .rdIcSsSclLcnt => true
  | .wrIcSsSclLcnt _ _ => true
  | .rdIcFsSclHcnt => true
  | .wrIcFsSclHcnt _ _ => true
  | .rdIcFsSclLcnt => true
  | .wrIcFsSclLcnt _ _ => true
  | .rdIcIntrStat => true
  | .rdIcIntrMask => true
  | .wrIcIntrMask _ _ => true
  | .rdIcRawIntrStat => true
  | .rdIcRxTl => true
  | .wrIcRxTl _ _ => true
  | .rdIcTxTl => true
  | .wrIcTxTl _ _ => true
  | .rdIcClrIntr => true
  | .rdIcClrRxUnder => true
  | .rdIcClrRxOver => true
  | .rdIcClrTxOver => true
  | .rdIcClrRdReq => true
  | .rdIcClrTxAbrt => true
  | .rdIcClrRxDone => true
  | .rdIcClrActivity => true
  | .rdIcClrStopDet => true
  | .rdIcClrStartDet => true
  | .rdIcClrGenCall => true
  | .rdIcEnable => true
  | .wrIcEnable _ => true
  | .rdIcStatus => true
  | .rdIcTxflr => true
  | .rdIcRxflr => true
  | .rdIcSdaHold => true
  | .wrIcSdaHold _ _ => true
  | .rdIcTxAbrtSource => true
  | .rdIcSlvDataNackOnly => true
  | .wrIcSlvDataNackOnly _ _ => true
  | .rdIcDmaCr => true
  | .wrIcDmaCr _ _ => true
  | .rdIcDmaTdlr => true
  | .wrIcDmaTdlr _ _ => true
  | .rdIcDmaRdlr => true
  | .wrIcDmaRdlr _ _ => true
  | .rdIcSdaSetup => true
  | .wrIcSdaSetup _ _ => true
  | .rdIcAckGeneralCall => true
  | .wrIcAckGeneralCall _ _ => true
  | .rdIcEnableStatus => true
  | .rdIcFsSpklen => true
  | .wrIcFsSpklen _ _ => true
  | .rdIcClrRestartDet => true
  | .rdIcCompParam1 => true
  | .rdIcCompVersion => true
  | .rdIcCompType => true
  | .rdResetsReset => true
  | .wrResetsReset _ _ => true
  | .rdResetsWdsel => true
  | .wrResetsWdsel _ _ => true
  | .rdResetsResetDone => true
  | .rdGpioStatus n => pinOk n
  | .rdGpioCtrl n => pinOk n
  | .wrGpioCtrl n _ _ => pinOk n
  | .rdVoltageSelect => true
  | .wrVoltageSelect _ _ => true
  | .rdPadGpio n => pinOk n
  | .wrPadGpio n _ _ => pinOk n
  | .rdSioCpuid => true
  | .rdSioGpioIn => true
  | .rdSioGpioOut => true
  | .wrSioGpioOut _ => true
  | .rdSioGpioOutSet => true
  | .wrSioGpioOutSet _ => true
  | .rdSioGpioOutClr => true
  | .wrSioGpioOutClr _ => true
  | .rdSioGpioOutXor => true
  | .wrSioGpioOutXor _ => true
  | .rdSioGpioOe => true
  | .wrSioGpioOe _ => true
  | .rdSioGpioOeSet => true
  | .wrSioGpioOeSet _ => true
  | .rdSioGpioOeClr => true
  | .wrSioGpioOeClr _ => true
  | .rdSioGpioOeXor => true
  | .wrSioGpioOeXor _ => true
  | .cmdW _ => true
  | .cmdR _ => true
  | .cmdWStop _ => true
  | .cmdRStop _ => true
  | .cmdWRestart _ => true
  | .cmdRRestart _ => true
  | .cmdWRestartStop _ => true
  | .cmdRRestartStop _ => true

end Sys2Proof
end

