-- ==== Sys2Proof/Decode.lean ====
section
/-! DEFINITION. Decoding and encoding (30_encoding.md). The ACC rows of spec/opcode_table.json stand as a
table of mask, match and constraint, one list per block, and `decodeAcc` is the algorithm of R152 with the
refusal reasons of R153. A CMDW word decodes by R160. The encoder follows, from the offset maps R155 to
R159 and R162. -/

namespace Sys2Proof

/-! ### The rows of the opcode table -/

/-- One ACC row of spec/opcode_table.json: its mask and match over the 33 bits of ACC, its constraint,
and the instruction its fields give. -/
structure AccRow where
  mask : BitVec 33
  mtch : BitVec 33
  ok : BitVec 33 → Bool
  build : BitVec 33 → Word → Instr

/-- A row "both matches and meets its constraint" (30_encoding.md R152). -/
def AccRow.hits (r : AccRow) (acc : BitVec 33) : Bool :=
  (acc &&& r.mask) == r.mtch && r.ok acc

/-- The alias field `ACC[13:12]` (30_encoding.md R151). -/
def opOfAcc (acc : BitVec 33) : AliasOp :=
  if acc.extractLsb' 12 2 = 0#2 then .normal
  else if acc.extractLsb' 12 2 = 1#2 then .xorBits
  else if acc.extractLsb' 12 2 = 2#2 then .setBits
  else .clrBits

/-- The pin index of an IO_BANK0 offset, `off[7:3]` (30_encoding.md R162). -/
def ioPinOfAcc (acc : BitVec 33) : BitVec 5 := acc.extractLsb' 3 5

/-- The pin index of a PADS_BANK0 offset, `(off - 4) / 4` (30_encoding.md R162). -/
def padPinOfAcc (acc : BitVec 33) : BitVec 5 := acc.extractLsb' 2 5 - 1

/-- The constraint `n <= 29` of the IO_BANK0 families. -/
def ioPinHolds (acc : BitVec 33) : Bool := pinOk (ioPinOfAcc acc)

/-- The constraint of the pad family: `off = 0x04 + 4n with n <= 29`. -/
def padPinHolds (acc : BitVec 33) : Bool :=
  acc.extractLsb' 2 5 != 0#5 && pinOk (padPinOfAcc acc)

/-- A row with no constraint and no operand but the fixed bits of its address. -/
def readRow (mtch : BitVec 33) (i : Instr) : AccRow :=
  { mask := 0x1FFFFFFFF#33, mtch := mtch, ok := fun _ => true, build := fun _ _ => i }

/-- A write row whose alias bits are fixed: IC_DATA_CMD, IC_ENABLE and the SIO registers. -/
def writeRow (mtch : BitVec 33) (f : Word → Instr) : AccRow :=
  { mask := 0x1FFFFFFFF#33, mtch := mtch, ok := fun _ => true, build := fun _ v => f v }

/-- A write row of a plain register: its alias bits are free (20_memory.md R107). -/
def plainRow (mtch : BitVec 33) (f : AliasOp → Word → Instr) : AccRow :=
  { mask := 0x1FFFFCFFF#33, mtch := mtch, ok := fun _ => true,
    build := fun acc v => f (opOfAcc acc) v }

/-- The ACC rows of I2C0, offsets 0x00 to 0x3C. -/
def i2cConfigRows : List AccRow :=
  [ readRow 0x040044000#33 .rdIcCon,
    plainRow 0x140044000#33 .wrIcCon,
    readRow 0x040044004#33 .rdIcTar,
    plainRow 0x140044004#33 .wrIcTar,
    readRow 0x040044008#33 .rdIcSar,
    plainRow 0x140044008#33 .wrIcSar,
    readRow 0x040044010#33 .rdIcDataCmd,
    writeRow 0x140044010#33 .wrIcDataCmd,
    readRow 0x040044014#33 .rdIcSsSclHcnt,
    plainRow 0x140044014#33 .wrIcSsSclHcnt,
    readRow 0x040044018#33 .rdIcSsSclLcnt,
    plainRow 0x140044018#33 .wrIcSsSclLcnt,
    readRow 0x04004401C#33 .rdIcFsSclHcnt,
    plainRow 0x14004401C#33 .wrIcFsSclHcnt,
    readRow 0x040044020#33 .rdIcFsSclLcnt,
    plainRow 0x140044020#33 .wrIcFsSclLcnt,
    readRow 0x04004402C#33 .rdIcIntrStat,
    readRow 0x040044030#33 .rdIcIntrMask,
    plainRow 0x140044030#33 .wrIcIntrMask,
    readRow 0x040044034#33 .rdIcRawIntrStat,
    readRow 0x040044038#33 .rdIcRxTl,
    plainRow 0x140044038#33 .wrIcRxTl,
    readRow 0x04004403C#33 .rdIcTxTl,
    plainRow 0x14004403C#33 .wrIcTxTl ]

/-- The ACC rows of I2C0, offsets 0x40 to 0x7C. -/
def i2cClearRows : List AccRow :=
  [ readRow 0x040044040#33 .rdIcClrIntr,
    readRow 0x040044044#33 .rdIcClrRxUnder,
    readRow 0x040044048#33 .rdIcClrRxOver,
    readRow 0x04004404C#33 .rdIcClrTxOver,
    readRow 0x040044050#33 .rdIcClrRdReq,
    readRow 0x040044054#33 .rdIcClrTxAbrt,
    readRow 0x040044058#33 .rdIcClrRxDone,
    readRow 0x04004405C#33 .rdIcClrActivity,
    readRow 0x040044060#33 .rdIcClrStopDet,
    readRow 0x040044064#33 .rdIcClrStartDet,
    readRow 0x040044068#33 .rdIcClrGenCall,
    readRow 0x04004406C#33 .rdIcEnable,
    writeRow 0x14004406C#33 .wrIcEnable,
    readRow 0x040044070#33 .rdIcStatus,
    readRow 0x040044074#33 .rdIcTxflr,
    readRow 0x040044078#33 .rdIcRxflr,
    readRow 0x04004407C#33 .rdIcSdaHold,
    plainRow 0x14004407C#33 .wrIcSdaHold ]

/-- The ACC rows of I2C0, offsets 0x80 to 0xFC. -/
def i2cHighRows : List AccRow :=
  [ readRow 0x040044080#33 .rdIcTxAbrtSource,
    readRow 0x040044084#33 .rdIcSlvDataNackOnly,
    plainRow 0x140044084#33 .wrIcSlvDataNackOnly,
    readRow 0x040044088#33 .rdIcDmaCr,
    plainRow 0x140044088#33 .wrIcDmaCr,
    readRow 0x04004408C#33 .rdIcDmaTdlr,
    plainRow 0x14004408C#33 .wrIcDmaTdlr,
    readRow 0x040044090#33 .rdIcDmaRdlr,
    plainRow 0x140044090#33 .wrIcDmaRdlr,
    readRow 0x040044094#33 .rdIcSdaSetup,
    plainRow 0x140044094#33 .wrIcSdaSetup,
    readRow 0x040044098#33 .rdIcAckGeneralCall,
    plainRow 0x140044098#33 .wrIcAckGeneralCall,
    readRow 0x04004409C#33 .rdIcEnableStatus,
    readRow 0x0400440A0#33 .rdIcFsSpklen,
    plainRow 0x1400440A0#33 .wrIcFsSpklen,
    readRow 0x0400440A8#33 .rdIcClrRestartDet,
    readRow 0x0400440F4#33 .rdIcCompParam1,
    readRow 0x0400440F8#33 .rdIcCompVersion,
    readRow 0x0400440FC#33 .rdIcCompType ]

/-- The ACC rows of RESETS. -/
def resetsRows : List AccRow :=
  [ readRow 0x04000C000#33 .rdResetsReset,
    plainRow 0x14000C000#33 .wrResetsReset,
    readRow 0x04000C004#33 .rdResetsWdsel,
    plainRow 0x14000C004#33 .wrResetsWdsel,
    readRow 0x04000C008#33 .rdResetsResetDone ]

/-- The ACC rows of IO_BANK0. -/
def ioRows : List AccRow :=
  [ { mask := 0x1FFFFFF07#33, mtch := 0x040014000#33, ok := ioPinHolds,
      build := fun acc _ => .rdGpioStatus (ioPinOfAcc acc) },
    { mask := 0x1FFFFFF07#33, mtch := 0x040014004#33, ok := ioPinHolds,
      build := fun acc _ => .rdGpioCtrl (ioPinOfAcc acc) },
    { mask := 0x1FFFFCF07#33, mtch := 0x140014004#33, ok := ioPinHolds,
      build := fun acc v => .wrGpioCtrl (ioPinOfAcc acc) (opOfAcc acc) v } ]

/-- The ACC rows of PADS_BANK0. -/
def padsRows : List AccRow :=
  [ readRow 0x04001C000#33 .rdVoltageSelect,
    plainRow 0x14001C000#33 .wrVoltageSelect,
    { mask := 0x1FFFFFF83#33, mtch := 0x04001C000#33, ok := padPinHolds,
      build := fun acc _ => .rdPadGpio (padPinOfAcc acc) },
    { mask := 0x1FFFFCF83#33, mtch := 0x14001C000#33, ok := padPinHolds,
      build := fun acc v => .wrPadGpio (padPinOfAcc acc) (opOfAcc acc) v } ]

/-- The ACC rows of SIO. -/
def sioRows : List AccRow :=
  [ readRow 0x0D0000000#33 .rdSioCpuid,
    readRow 0x0D0000004#33 .rdSioGpioIn,
    readRow 0x0D0000010#33 .rdSioGpioOut,
    writeRow 0x1D0000010#33 .wrSioGpioOut,
    readRow 0x0D0000014#33 .rdSioGpioOutSet,
    writeRow 0x1D0000014#33 .wrSioGpioOutSet,
    readRow 0x0D0000018#33 .rdSioGpioOutClr,
    writeRow 0x1D0000018#33 .wrSioGpioOutClr,
    readRow 0x0D000001C#33 .rdSioGpioOutXor,
    writeRow 0x1D000001C#33 .wrSioGpioOutXor,
    readRow 0x0D0000020#33 .rdSioGpioOe,
    writeRow 0x1D0000020#33 .wrSioGpioOe,
    readRow 0x0D0000024#33 .rdSioGpioOeSet,
    writeRow 0x1D0000024#33 .wrSioGpioOeSet,
    readRow 0x0D0000028#33 .rdSioGpioOeClr,
    writeRow 0x1D0000028#33 .wrSioGpioOeClr,
    readRow 0x0D000002C#33 .rdSioGpioOeXor,
    writeRow 0x1D000002C#33 .wrSioGpioOeXor ]

/-- Every ACC row of spec/opcode_table.json. -/
def accRows : List AccRow :=
  i2cConfigRows ++ i2cClearRows ++ i2cHighRows ++ resetsRows ++ ioRows ++ padsRows ++ sioRows

/-! ### Decoding -/

/-- Whether an ACC row matches: the set `rows` of 30_encoding.md R152 is not empty. -/
def accMatches (acc : BitVec 33) : Bool := accRows.any (fun r => r.hits acc)

/-- Whether ACC lies in one of the four aliased blocks, where `ACC[13:12]` is the alias
(30_encoding.md R151, 20_memory.md R101). SIO has no aliases. -/
def inAliasedBlock (acc : BitVec 33) : Bool :=
  let block := acc.extractLsb' 14 18
  block == 0x10003#18 || block == 0x10005#18 || block == 0x10007#18 || block == 0x10011#18

/-- "The same address at alias 0" (30_encoding.md R153). -/
def accAtAlias0 (acc : BitVec 33) : BitVec 33 := acc &&& 0x1FFFFCFFF#33

/-- ACC with its W bit replaced: the same address as a read or as a write (30_encoding.md R151). -/
def accWithW (w : Bool) (acc : BitVec 33) : BitVec 33 := BitVec.ofBool w ++ acc.setWidth 32

/-- The W bit of ACC: a write (30_encoding.md R151). -/
def accIsWrite (acc : BitVec 33) : Bool := acc.getLsbD 32

/-- The refusal reason when no row matches (30_encoding.md R153). A write at any alias of a register that has
a read row only is WRITE_RO, since 20_memory.md R101 decodes its address to that register and R103 keeps
UNMAPPED for an address that decodes to none (log entry 11). -/
def refusalReason (acc : BitVec 33) : Reason :=
  let offAlias := inAliasedBlock acc && decide (acc.extractLsb' 12 2 ≠ 0#2)
  let readAt0 := accWithW false (if offAlias then accAtAlias0 acc else acc)
  if !accIsWrite acc && offAlias && accMatches (accAtAlias0 acc) then .aliasRead
  else if accIsWrite acc && offAlias && accMatches (accAtAlias0 acc) then .aliasSideEffect
  else if accIsWrite acc && accMatches readAt0 then .writeRo
  else .unmapped

/-- Decoding an access `(n, ACC, v)` (30_encoding.md R152): width and alignment first, then the one row
that matches, then the reason. -/
def decodeAcc (n : Nat) (acc : BitVec 33) (v : Word) : Except Reason Instr :=
  if n ≠ 4 ∨ acc.extractLsb' 0 2 ≠ 0#2 then .error .widthOrAlign
  else
    match accRows.find? (fun r => r.hits acc) with
    | some r => .ok (r.build acc v)
    | none => .error (refusalReason acc)

/-- The command of a CMDW word (30_encoding.md R161): bits 31:11 are ignored. -/
def cmdOfWord (w : Word) : Cmd :=
  { cmd := w.getLsbD 8, stop := w.getLsbD 9, restart := w.getLsbD 10, dat := w.extractLsb' 0 8 }

/-- The class of a command: the CMDW row of spec/opcode_table.json it matches (30_encoding.md R160). -/
def instrOfCmd (c : Cmd) : Instr :=
  match c.restart, c.stop, c.cmd with
  | false, false, false => .cmdW c.dat
  | false, false, true => .cmdR c.dat
  | false, true, false => .cmdWStop c.dat
  | false, true, true => .cmdRStop c.dat
  | true, false, false => .cmdWRestart c.dat
  | true, false, true => .cmdRRestart c.dat
  | true, true, false => .cmdWRestartStop c.dat
  | true, true, true => .cmdRRestartStop c.dat

/-- Decoding, total: an access by 30_encoding.md R152, a CMDW word by R160. -/
def decode : Code → Except Reason Instr
  | .acc n acc v => decodeAcc n acc v
  | .cmdw w => .ok (instrOfCmd (cmdOfWord w))

/-! ### Encoding -/

/-- `{restart, stop, cmd, dat}` in bits 10, 9, 8 and 7:0, and zero above (30_encoding.md R160). -/
def wordOfCmd (c : Cmd) : Word :=
  (BitVec.ofBool c.restart ++ BitVec.ofBool c.stop ++ BitVec.ofBool c.cmd ++ c.dat).setWidth 32

/-- `ACC[13:12]` of an alias (30_encoding.md R151). -/
def AliasOp.bits : AliasOp → BitVec 2
  | .normal => 0#2
  | .xorBits => 1#2
  | .setBits => 2#2
  | .clrBits => 3#2

/-- ACC of an aliased block: `{W, block, alias, off}` (30_encoding.md R151). -/
def accOf (w : Bool) (block : BitVec 18) (op : AliasOp) (off : BitVec 12) : BitVec 33 :=
  BitVec.ofBool w ++ block ++ op.bits ++ off

/-- ACC[31:14] of I2C0, RESETS, IO_BANK0 and PADS_BANK0 (30_encoding.md R151). -/
def blkI2c0 : BitVec 18 := 0x10011#18
def blkResets : BitVec 18 := 0x10003#18
def blkIo : BitVec 18 := 0x10005#18
def blkPads : BitVec 18 := 0x10007#18

/-- A read of an aliased block at alias 0. -/
def rdCode (block : BitVec 18) (off : BitVec 12) : Code := .acc 4 (accOf false block .normal off) 0

/-- A write of an aliased block. -/
def wrCode (block : BitVec 18) (op : AliasOp) (off : BitVec 12) (v : Word) : Code :=
  .acc 4 (accOf true block op off) v

/-- A read or write of SIO: `ACC[31:12] = 0xD0000` (30_encoding.md R151). -/
def sioCode (w : Bool) (off : BitVec 12) (v : Word) : Code :=
  .acc 4 (BitVec.ofBool w ++ 0xD0000#20 ++ off) v

/-- The offsets of the families (30_encoding.md R156, R157). -/
def gpioStatusOff (n : BitVec 5) : BitVec 12 := n.setWidth 12 * 8
def gpioCtrlOff (n : BitVec 5) : BitVec 12 := n.setWidth 12 * 8 + 4
def padOff (n : BitVec 5) : BitVec 12 := n.setWidth 12 * 4 + 4

/-- The words of an instruction, from the offset maps of 30_encoding.md R155 to R159 and R160. -/
def encode : Instr → Code
  | .rdIcCon => rdCode blkI2c0 0x000
  | .wrIcCon op v => wrCode blkI2c0 op 0x000 v
  | .rdIcTar => rdCode blkI2c0 0x004
  | .wrIcTar op v => wrCode blkI2c0 op 0x004 v
  | .rdIcSar => rdCode blkI2c0 0x008
  | .wrIcSar op v => wrCode blkI2c0 op 0x008 v
  | .rdIcDataCmd => rdCode blkI2c0 0x010
  | .wrIcDataCmd v => wrCode blkI2c0 .normal 0x010 v
  | .rdIcSsSclHcnt => rdCode blkI2c0 0x014
  | .wrIcSsSclHcnt op v => wrCode blkI2c0 op 0x014 v
  | .rdIcSsSclLcnt => rdCode blkI2c0 0x018
  | .wrIcSsSclLcnt op v => wrCode blkI2c0 op 0x018 v
  | .rdIcFsSclHcnt => rdCode blkI2c0 0x01C
  | .wrIcFsSclHcnt op v => wrCode blkI2c0 op 0x01C v
  | .rdIcFsSclLcnt => rdCode blkI2c0 0x020
  | .wrIcFsSclLcnt op v => wrCode blkI2c0 op 0x020 v
  | .rdIcIntrStat => rdCode blkI2c0 0x02C
  | .rdIcIntrMask => rdCode blkI2c0 0x030
  | .wrIcIntrMask op v => wrCode blkI2c0 op 0x030 v
  | .rdIcRawIntrStat => rdCode blkI2c0 0x034
  | .rdIcRxTl => rdCode blkI2c0 0x038
  | .wrIcRxTl op v => wrCode blkI2c0 op 0x038 v
  | .rdIcTxTl => rdCode blkI2c0 0x03C
  | .wrIcTxTl op v => wrCode blkI2c0 op 0x03C v
  | .rdIcClrIntr => rdCode blkI2c0 0x040
  | .rdIcClrRxUnder => rdCode blkI2c0 0x044
  | .rdIcClrRxOver => rdCode blkI2c0 0x048
  | .rdIcClrTxOver => rdCode blkI2c0 0x04C
  | .rdIcClrRdReq => rdCode blkI2c0 0x050
  | .rdIcClrTxAbrt => rdCode blkI2c0 0x054
  | .rdIcClrRxDone => rdCode blkI2c0 0x058
  | .rdIcClrActivity => rdCode blkI2c0 0x05C
  | .rdIcClrStopDet => rdCode blkI2c0 0x060
  | .rdIcClrStartDet => rdCode blkI2c0 0x064
  | .rdIcClrGenCall => rdCode blkI2c0 0x068
  | .rdIcEnable => rdCode blkI2c0 0x06C
  | .wrIcEnable v => wrCode blkI2c0 .normal 0x06C v
  | .rdIcStatus => rdCode blkI2c0 0x070
  | .rdIcTxflr => rdCode blkI2c0 0x074
  | .rdIcRxflr => rdCode blkI2c0 0x078
  | .rdIcSdaHold => rdCode blkI2c0 0x07C
  | .wrIcSdaHold op v => wrCode blkI2c0 op 0x07C v
  | .rdIcTxAbrtSource => rdCode blkI2c0 0x080
  | .rdIcSlvDataNackOnly => rdCode blkI2c0 0x084
  | .wrIcSlvDataNackOnly op v => wrCode blkI2c0 op 0x084 v
  | .rdIcDmaCr => rdCode blkI2c0 0x088
  | .wrIcDmaCr op v => wrCode blkI2c0 op 0x088 v
  | .rdIcDmaTdlr => rdCode blkI2c0 0x08C
  | .wrIcDmaTdlr op v => wrCode blkI2c0 op 0x08C v
  | .rdIcDmaRdlr => rdCode blkI2c0 0x090
  | .wrIcDmaRdlr op v => wrCode blkI2c0 op 0x090 v
  | .rdIcSdaSetup => rdCode blkI2c0 0x094
  | .wrIcSdaSetup op v => wrCode blkI2c0 op 0x094 v
  | .rdIcAckGeneralCall => rdCode blkI2c0 0x098
  | .wrIcAckGeneralCall op v => wrCode blkI2c0 op 0x098 v
  | .rdIcEnableStatus => rdCode blkI2c0 0x09C
  | .rdIcFsSpklen => rdCode blkI2c0 0x0A0
  | .wrIcFsSpklen op v => wrCode blkI2c0 op 0x0A0 v
  | .rdIcClrRestartDet => rdCode blkI2c0 0x0A8
  | .rdIcCompParam1 => rdCode blkI2c0 0x0F4
  | .rdIcCompVersion => rdCode blkI2c0 0x0F8
  | .rdIcCompType => rdCode blkI2c0 0x0FC
  | .rdResetsReset => rdCode blkResets 0x000
  | .wrResetsReset op v => wrCode blkResets op 0x000 v
  | .rdResetsWdsel => rdCode blkResets 0x004
  | .wrResetsWdsel op v => wrCode blkResets op 0x004 v
  | .rdResetsResetDone => rdCode blkResets 0x008
  | .rdGpioStatus n => rdCode blkIo (gpioStatusOff n)
  | .rdGpioCtrl n => rdCode blkIo (gpioCtrlOff n)
  | .wrGpioCtrl n op v => wrCode blkIo op (gpioCtrlOff n) v
  | .rdVoltageSelect => rdCode blkPads 0x000
  | .wrVoltageSelect op v => wrCode blkPads op 0x000 v
  | .rdPadGpio n => rdCode blkPads (padOff n)
  | .wrPadGpio n op v => wrCode blkPads op (padOff n) v
  | .rdSioCpuid => sioCode false 0x000 0
  | .rdSioGpioIn => sioCode false 0x004 0
  | .rdSioGpioOut => sioCode false 0x010 0
  | .wrSioGpioOut v => sioCode true 0x010 v
  | .rdSioGpioOutSet => sioCode false 0x014 0
  | .wrSioGpioOutSet v => sioCode true 0x014 v
  | .rdSioGpioOutClr => sioCode false 0x018 0
  | .wrSioGpioOutClr v => sioCode true 0x018 v
  | .rdSioGpioOutXor => sioCode false 0x01C 0
  | .wrSioGpioOutXor v => sioCode true 0x01C v
  | .rdSioGpioOe => sioCode false 0x020 0
  | .wrSioGpioOe v => sioCode true 0x020 v
  | .rdSioGpioOeSet => sioCode false 0x024 0
  | .wrSioGpioOeSet v => sioCode true 0x024 v
  | .rdSioGpioOeClr => sioCode false 0x028 0
  | .wrSioGpioOeClr v => sioCode true 0x028 v
  | .rdSioGpioOeXor => sioCode false 0x02C 0
  | .wrSioGpioOeXor v => sioCode true 0x02C v
  | .cmdW dat => .cmdw (wordOfCmd ⟨false, false, false, dat⟩)
  | .cmdR dat => .cmdw (wordOfCmd ⟨true, false, false, dat⟩)
  | .cmdWStop dat => .cmdw (wordOfCmd ⟨false, true, false, dat⟩)
  | .cmdRStop dat => .cmdw (wordOfCmd ⟨true, true, false, dat⟩)
  | .cmdWRestart dat => .cmdw (wordOfCmd ⟨false, false, true, dat⟩)
  | .cmdRRestart dat => .cmdw (wordOfCmd ⟨true, false, true, dat⟩)
  | .cmdWRestartStop dat => .cmdw (wordOfCmd ⟨false, true, true, dat⟩)
  | .cmdRRestartStop dat => .cmdw (wordOfCmd ⟨true, true, true, dat⟩)

/-! ### The host's words -/

/-- An instruction whose bits are `w`, numbered as spec/opcode_table.json numbers them: up to 32 bits are
a CMDW word, more are an ACC in bits 32:0 and the written value above it. -/
def codeOfTableWord (nbits w : Nat) : Code :=
  if nbits ≤ 32 then .cmdw (BitVec.ofNat 32 w)
  else .acc 4 (BitVec.ofNat 33 w) (BitVec.ofNat 32 (w >>> 33))

/-- The instruction the decoder reads from a word of the opcode table. -/
def decodeTableWord (nbits w : Nat) : Option Instr :=
  match decode (codeOfTableWord nbits w) with
  | .ok i => some i
  | .error _ => none

end Sys2Proof
end

