-- ==== Sys2Proof/Machine/I2cData.lean ====
section
/-! DEFINITION. IC_DATA_CMD, the FIFO levels, IC_STATUS, IC_ENABLE_STATUS and the identification registers
(42_i2c_data_status.md R350 to R369, R374). -/

namespace Sys2Proof.Machine

/-- The push of a command (42_i2c_data_status.md R350). -/
def pushCommand (v : Word) (s : State) : State :=
  if s.ctrl.icEn = false then refuse .dataCmdWhileDisabled s
  else if s.ctrl.flushHold then refuse .dataCmdDuringFlush s
  else if s.ctrl.txq.length = Config.txDepth then setRaw s { s.ctrl.raw with txOver := true }
  else { s with ctrl := { s.ctrl with txq := s.ctrl.txq ++ [cmdOfWord v] } }

/-- The pop of a received byte (42_i2c_data_status.md R355). -/
def popByte (s : State) : State :=
  if s.ctrl.icEn = false then refuse .dataCmdWhileDisabled s
  else
    match s.ctrl.rxq with
    | [] => respondFree (setRaw s { s.ctrl.raw with rxUnder := true })
    | b :: rest => respondLow b { s with ctrl := { s.ctrl with rxq := rest } }

/-- RD IC_DATA_CMD (42_i2c_data_status.md R355). -/
def execRdIcDataCmd (s : State) : Host.Outcome State Fault Refusal :=
  .next (inBlock i2cBit popByte s)

/-- WR IC_DATA_CMD, v (42_i2c_data_status.md R350). -/
def execWrIcDataCmd (v : Word) (s : State) : Host.Outcome State Fault Refusal :=
  .next (inBlock i2cBit (pushCommand v) s)

/-- RD IC_TXFLR (42_i2c_data_status.md R360). -/
def execRdIcTxflr (s : State) : Host.Outcome State Fault Refusal :=
  .next (inBlock i2cBit (respondLow (BitVec.ofNat 5 s.ctrl.txq.length)) s)

/-- RD IC_RXFLR (42_i2c_data_status.md R360). -/
def execRdIcRxflr (s : State) : Host.Outcome State Fault Refusal :=
  .next (inBlock i2cBit (respondLow (BitVec.ofNat 5 s.ctrl.rxq.length)) s)

/-- RD IC_STATUS (42_i2c_data_status.md R365). -/
def execRdIcStatus (s : State) : Host.Outcome State Fault Refusal :=
  .next (inBlock i2cBit (respondLow (icStatus s)) s)

/-- RD IC_ENABLE_STATUS (42_i2c_data_status.md R369). -/
def execRdIcEnableStatus (s : State) : Host.Outcome State Fault Refusal :=
  .next (inBlock i2cBit (respondLow (icEnableStatus s)) s)

/-- RD IC_COMP_PARAM_1 (42_i2c_data_status.md R374): the parameter COMP_PARAM_1. -/
def execRdIcCompParam1 (s : State) : Host.Outcome State Fault Refusal :=
  .next (inBlock i2cBit (respond Config.compParam1) s)

/-- RD IC_COMP_VERSION (42_i2c_data_status.md R374). -/
def execRdIcCompVersion (s : State) : Host.Outcome State Fault Refusal :=
  .next (inBlock i2cBit (respond 0x3230312A) s)

/-- RD IC_COMP_TYPE (42_i2c_data_status.md R374). -/
def execRdIcCompType (s : State) : Host.Outcome State Fault Refusal :=
  .next (inBlock i2cBit (respond 0x44570140) s)

end Sys2Proof.Machine
end

