-- ==== Sys2Proof/Machine/I2cConfig.lean ====
section
/-! DEFINITION. Reads and writes of the I2C0 configuration registers (41_i2c_config.md R301 to R312): IC_CON,
IC_TAR, IC_SAR, the SCL counts, IC_FS_SPKLEN, IC_SDA_HOLD, IC_SDA_SETUP, IC_INTR_MASK, the thresholds,
the slave and DMA registers. A write takes the value after the alias operation of 20_memory.md R106 over
the stored RW fields. -/

namespace Sys2Proof.Machine

/-- The I2C0 registers changed. -/
def updI2c (f : I2cRegs → I2cRegs) (s : State) : State := { s with i2c := f s.i2c }

/-- A threshold write (41_i2c_config.md R310): a value above 15 is refused. -/
def writeThreshold (w : Word) (f : BitVec 8 → State → State) (s : State) : State :=
  if 15 < (fieldAt w 0 8).toNat then refuse .thresholdRange s else f (fieldAt w 0 8) s

/-- RD IC_CON (41_i2c_config.md R302). -/
def execRdIcCon (s : State) : Host.Outcome State Fault Refusal :=
  .next (inBlock i2cBit (respondLow (icConWord s.i2c.con)) s)

/-- WR IC_CON, v (41_i2c_config.md R303). -/
def execWrIcCon (op : AliasOp) (v : Word) (s : State) : Host.Outcome State Fault Refusal :=
  let w := aliasApply op (zext (icConWord s.i2c.con)) v
  .next (inBlock i2cBit (gated (updI2c (fun r => { r with con := icConOfWord w }))) s)

/-- RD IC_TAR (41_i2c_config.md R304). -/
def execRdIcTar (s : State) : Host.Outcome State Fault Refusal :=
  .next (inBlock i2cBit (respondLow (icTarWord s.i2c.tar)) s)

/-- WR IC_TAR, v (41_i2c_config.md R304). -/
def execWrIcTar (op : AliasOp) (v : Word) (s : State) : Host.Outcome State Fault Refusal :=
  let w := aliasApply op (zext (icTarWord s.i2c.tar)) v
  .next (inBlock i2cBit (gated (updI2c (fun r => { r with tar := icTarOfWord w }))) s)

/-- RD IC_SAR (41_i2c_config.md R308). -/
def execRdIcSar (s : State) : Host.Outcome State Fault Refusal :=
  .next (inBlock i2cBit (respondLow s.i2c.sar) s)

/-- WR IC_SAR, v (41_i2c_config.md R308). -/
def execWrIcSar (op : AliasOp) (v : Word) (s : State) : Host.Outcome State Fault Refusal :=
  let w := aliasApply op (zext s.i2c.sar) v
  .next (inBlock i2cBit (gated (updI2c (fun r => { r with sar := fieldAt w 0 10 }))) s)

/-- RD IC_SS_SCL_HCNT (41_i2c_config.md R305). -/
def execRdIcSsSclHcnt (s : State) : Host.Outcome State Fault Refusal :=
  .next (inBlock i2cBit (respondLow s.i2c.ssHcnt) s)

/-- WR IC_SS_SCL_HCNT, v (41_i2c_config.md R305). -/
def execWrIcSsSclHcnt (op : AliasOp) (v : Word) (s : State) : Host.Outcome State Fault Refusal :=
  let w := aliasApply op (zext s.i2c.ssHcnt) v
  .next (inBlock i2cBit (gated (updI2c (fun r => { r with ssHcnt := legalHcnt w }))) s)

/-- RD IC_SS_SCL_LCNT (41_i2c_config.md R305). -/
def execRdIcSsSclLcnt (s : State) : Host.Outcome State Fault Refusal :=
  .next (inBlock i2cBit (respondLow s.i2c.ssLcnt) s)

/-- WR IC_SS_SCL_LCNT, v (41_i2c_config.md R305). -/
def execWrIcSsSclLcnt (op : AliasOp) (v : Word) (s : State) : Host.Outcome State Fault Refusal :=
  let w := aliasApply op (zext s.i2c.ssLcnt) v
  .next (inBlock i2cBit (gated (updI2c (fun r => { r with ssLcnt := legalLcnt w }))) s)

/-- RD IC_FS_SCL_HCNT (41_i2c_config.md R305). -/
def execRdIcFsSclHcnt (s : State) : Host.Outcome State Fault Refusal :=
  .next (inBlock i2cBit (respondLow s.i2c.fsHcnt) s)

/-- WR IC_FS_SCL_HCNT, v (41_i2c_config.md R305). -/
def execWrIcFsSclHcnt (op : AliasOp) (v : Word) (s : State) : Host.Outcome State Fault Refusal :=
  let w := aliasApply op (zext s.i2c.fsHcnt) v
  .next (inBlock i2cBit (gated (updI2c (fun r => { r with fsHcnt := legalHcnt w }))) s)

/-- RD IC_FS_SCL_LCNT (41_i2c_config.md R305). -/
def execRdIcFsSclLcnt (s : State) : Host.Outcome State Fault Refusal :=
  .next (inBlock i2cBit (respondLow s.i2c.fsLcnt) s)

/-- WR IC_FS_SCL_LCNT, v (41_i2c_config.md R305). -/
def execWrIcFsSclLcnt (op : AliasOp) (v : Word) (s : State) : Host.Outcome State Fault Refusal :=
  let w := aliasApply op (zext s.i2c.fsLcnt) v
  .next (inBlock i2cBit (gated (updI2c (fun r => { r with fsLcnt := legalLcnt w }))) s)

/-- RD IC_FS_SPKLEN (41_i2c_config.md R307). -/
def execRdIcFsSpklen (s : State) : Host.Outcome State Fault Refusal :=
  .next (inBlock i2cBit (respondLow s.i2c.fsSpklen) s)

/-- WR IC_FS_SPKLEN, v (41_i2c_config.md R307). -/
def execWrIcFsSpklen (op : AliasOp) (v : Word) (s : State) : Host.Outcome State Fault Refusal :=
  let w := aliasApply op (zext s.i2c.fsSpklen) v
  .next (inBlock i2cBit (gated (updI2c (fun r => { r with fsSpklen := legalSpklen w }))) s)

/-- RD IC_SDA_HOLD (41_i2c_config.md R306). -/
def execRdIcSdaHold (s : State) : Host.Outcome State Fault Refusal :=
  .next (inBlock i2cBit (respondLow (sdaHoldWord s.i2c)) s)

/-- WR IC_SDA_HOLD, v (41_i2c_config.md R306). -/
def execWrIcSdaHold (op : AliasOp) (v : Word) (s : State) : Host.Outcome State Fault Refusal :=
  let w := aliasApply op (zext (sdaHoldWord s.i2c)) v
  .next (inBlock i2cBit (whileDisabled (updI2c (fun r => { r with sdaTxHold := fieldAt w 0 16, sdaRxHold := fieldAt w 16 8 }))) s)

/-- RD IC_SDA_SETUP (41_i2c_config.md R306). -/
def execRdIcSdaSetup (s : State) : Host.Outcome State Fault Refusal :=
  .next (inBlock i2cBit (respondLow s.i2c.sdaSetup) s)

/-- WR IC_SDA_SETUP, v (41_i2c_config.md R306). -/
def execWrIcSdaSetup (op : AliasOp) (v : Word) (s : State) : Host.Outcome State Fault Refusal :=
  let w := aliasApply op (zext s.i2c.sdaSetup) v
  .next (inBlock i2cBit (whileDisabled (updI2c (fun r => { r with sdaSetup := fieldAt w 0 8 }))) s)

/-- RD IC_INTR_MASK (41_i2c_config.md R309). -/
def execRdIcIntrMask (s : State) : Host.Outcome State Fault Refusal :=
  .next (inBlock i2cBit (respondLow s.i2c.intrMask) s)

/-- WR IC_INTR_MASK, v (41_i2c_config.md R309). -/
def execWrIcIntrMask (op : AliasOp) (v : Word) (s : State) : Host.Outcome State Fault Refusal :=
  let w := aliasApply op (zext s.i2c.intrMask) v
  .next (inBlock i2cBit (updI2c (fun r => { r with intrMask := fieldAt w 0 13 })) s)

/-- RD IC_RX_TL (41_i2c_config.md R310). -/
def execRdIcRxTl (s : State) : Host.Outcome State Fault Refusal :=
  .next (inBlock i2cBit (respondLow s.i2c.rxTl) s)

/-- WR IC_RX_TL, v (41_i2c_config.md R310). -/
def execWrIcRxTl (op : AliasOp) (v : Word) (s : State) : Host.Outcome State Fault Refusal :=
  let w := aliasApply op (zext s.i2c.rxTl) v
  .next (inBlock i2cBit (writeThreshold w (fun x => updI2c (fun r => { r with rxTl := x }))) s)

/-- RD IC_TX_TL (41_i2c_config.md R310). -/
def execRdIcTxTl (s : State) : Host.Outcome State Fault Refusal :=
  .next (inBlock i2cBit (respondLow s.i2c.txTl) s)

/-- WR IC_TX_TL, v (41_i2c_config.md R310). -/
def execWrIcTxTl (op : AliasOp) (v : Word) (s : State) : Host.Outcome State Fault Refusal :=
  let w := aliasApply op (zext s.i2c.txTl) v
  .next (inBlock i2cBit (writeThreshold w (fun x => updI2c (fun r => { r with txTl := x }))) s)

/-- RD IC_DMA_CR (41_i2c_config.md R311). -/
def execRdIcDmaCr (s : State) : Host.Outcome State Fault Refusal :=
  .next (inBlock i2cBit (respondLow s.i2c.dmaCr) s)

/-- WR IC_DMA_CR, v (41_i2c_config.md R311). -/
def execWrIcDmaCr (op : AliasOp) (v : Word) (s : State) : Host.Outcome State Fault Refusal :=
  let w := aliasApply op (zext s.i2c.dmaCr) v
  .next (inBlock i2cBit (updI2c (fun r => { r with dmaCr := fieldAt w 0 2 })) s)

/-- RD IC_DMA_TDLR (41_i2c_config.md R311). -/
def execRdIcDmaTdlr (s : State) : Host.Outcome State Fault Refusal :=
  .next (inBlock i2cBit (respondLow s.i2c.dmaTdlr) s)

/-- WR IC_DMA_TDLR, v (41_i2c_config.md R311). -/
def execWrIcDmaTdlr (op : AliasOp) (v : Word) (s : State) : Host.Outcome State Fault Refusal :=
  let w := aliasApply op (zext s.i2c.dmaTdlr) v
  .next (inBlock i2cBit (updI2c (fun r => { r with dmaTdlr := fieldAt w 0 4 })) s)

/-- RD IC_DMA_RDLR (41_i2c_config.md R311). -/
def execRdIcDmaRdlr (s : State) : Host.Outcome State Fault Refusal :=
  .next (inBlock i2cBit (respondLow s.i2c.dmaRdlr) s)

/-- WR IC_DMA_RDLR, v (41_i2c_config.md R311). -/
def execWrIcDmaRdlr (op : AliasOp) (v : Word) (s : State) : Host.Outcome State Fault Refusal :=
  let w := aliasApply op (zext s.i2c.dmaRdlr) v
  .next (inBlock i2cBit (updI2c (fun r => { r with dmaRdlr := fieldAt w 0 4 })) s)

/-- RD IC_SLV_DATA_NACK_ONLY (41_i2c_config.md R312). -/
def execRdIcSlvDataNackOnly (s : State) : Host.Outcome State Fault Refusal :=
  .next (inBlock i2cBit (respondLow (bit1 s.i2c.slvDataNackOnly)) s)

/-- WR IC_SLV_DATA_NACK_ONLY, v (41_i2c_config.md R312). -/
def execWrIcSlvDataNackOnly (op : AliasOp) (v : Word) (s : State) :
    Host.Outcome State Fault Refusal :=
  let w := aliasApply op (zext (bit1 s.i2c.slvDataNackOnly)) v
  .next (inBlock i2cBit (updI2c (fun r => { r with slvDataNackOnly := bitAt w 0 })) s)

/-- RD IC_ACK_GENERAL_CALL (41_i2c_config.md R312). -/
def execRdIcAckGeneralCall (s : State) : Host.Outcome State Fault Refusal :=
  .next (inBlock i2cBit (respondLow (bit1 s.i2c.ackGeneralCall)) s)

/-- WR IC_ACK_GENERAL_CALL, v (41_i2c_config.md R312). -/
def execWrIcAckGeneralCall (op : AliasOp) (v : Word) (s : State) :
    Host.Outcome State Fault Refusal :=
  let w := aliasApply op (zext (bit1 s.i2c.ackGeneralCall)) v
  .next (inBlock i2cBit (updI2c (fun r => { r with ackGeneralCall := bitAt w 0 })) s)

end Sys2Proof.Machine
end

