-- ==== Sys2Proof/Machine/I2cEnable.lean ====
section
/-! DEFINITION. IC_ENABLE (41_i2c_config.md R320 to R330): enabling with the admission check, disabling, the abort
request and TX_CMD_BLOCK. -/

namespace Sys2Proof.Machine

/-- The first failing test of the admission check, none where it passes (41_i2c_config.md R330). -/
def admissionFailure (r : I2cRegs) : Option Reason :=
  if r.con.masterMode = false then some .enableSlaveMode
  else if r.con.slaveDisable = false then some .enableSlaveMode
  else if r.con.tenBitAddrMaster = true then some .enable10bit
  else if r.tar.special = true then some .enableSpecial
  else if (hcntEff r).toNat ≤ r.fsSpklen.toNat + 5 then some .enableHcntTooSmall
  else if (lcntEff r).toNat ≤ r.fsSpklen.toNat + 7 then some .enableLcntTooSmall
  else if (lcntEff r).toNat ≤ r.sdaTxHold.toNat + 2 then some .enableSdaHoldTooLong
  else none

/-- `disable()` (41_i2c_config.md R321). -/
def disableCtrl (s : State) : State :=
  { s with ctrl := { s.ctrl with
      icEn := false
      txq := []
      rxq := []
      raw := { s.ctrl.raw with activity := false, rxUnder := false, rxOver := false, txOver := false }
      sdaOe := false
      sclOe := false } }

/-- The last three lines of the write: ENABLE and TX_CMD_BLOCK are stored, a written ABORT is set and
never cleared (41_i2c_config.md R320, R322, R323). -/
def storeEnable (e a b : Bool) (s : State) : State :=
  updI2c (fun r => { r with enable :=
    { enable := e, abort := a || r.enable.abort, txCmdBlock := b } }) s

/-- The write of IC_ENABLE with `e = v[0]`, `a = v[1]`, `b = v[2]` (41_i2c_config.md R320). -/
def writeEnable (v : Word) (s : State) : State :=
  let e := bitAt v 0
  let a := bitAt v 1
  let b := bitAt v 2
  if a && !e then refuse .abortWhileDisabling s
  else if !e && s.ctrl.icEn then
    if s.ctrl.owned || s.ctrl.shift.isSome || s.i2c.enable.abort then refuse .disableWhileActive s
    else storeEnable e a b (disableCtrl s)
  else if e && !s.ctrl.icEn then
    match admissionFailure s.i2c with
    | some r => refuse r s
    | none => storeEnable e a b { s with ctrl := { s.ctrl with icEn := true } }
  else storeEnable e a b s

/-- RD IC_ENABLE (41_i2c_config.md R324). -/
def execRdIcEnable (s : State) : Host.Outcome State Fault Refusal :=
  .next (inBlock i2cBit (respondLow (icEnableWord s.i2c.enable)) s)

/-- WR IC_ENABLE, v (41_i2c_config.md R320). -/
def execWrIcEnable (v : Word) (s : State) : Host.Outcome State Fault Refusal :=
  .next (inBlock i2cBit (writeEnable v) s)

end Sys2Proof.Machine
end

