-- ==== Sys2Proof/Machine/I2cIntr.lean ====
section
/-! DEFINITION. The interrupt, abort-source and clear registers (42_i2c_data_status.md R366 to R375). A read of a
clear register returns a free word (R370). -/

namespace Sys2Proof.Machine

/-- IC_TX_ABRT_SOURCE: bits 16:0 and 31:23 are stored, 22:17 are `res` (42_i2c_data_status.md R368). -/
def abrtSourceWord (r : I2cRegs) : Word := place 0 r.abrtSource ||| place 23 r.txFlushCnt

/-- The defined bits of IC_TX_ABRT_SOURCE. -/
def abrtSourceDefined : Word := 0xFF81FFFF#32

/-- A clear of latched bits, then the free read value (42_i2c_data_status.md R370, R373). -/
def clearRaw (f : RawBits → RawBits) (s : State) : State := respondFree (setRaw s (f s.ctrl.raw))

/-- The effect of a read of IC_CLR_INTR (42_i2c_data_status.md R371). -/
def clearAllRaw (s : State) : State :=
  setRaw s { s.ctrl.raw with
    rxUnder := false, rxOver := false, txOver := false, rdReq := false, txAbrt := false,
    rxDone := false, stopDet := false, startDet := false, genCall := false, restartDet := false,
    activity := mstActivity s }

/-- RD IC_INTR_STAT (42_i2c_data_status.md R367). -/
def execRdIcIntrStat (s : State) : Host.Outcome State Fault Refusal :=
  .next (inBlock i2cBit (respondLow (intrStat s)) s)

/-- RD IC_RAW_INTR_STAT (42_i2c_data_status.md R366). -/
def execRdIcRawIntrStat (s : State) : Host.Outcome State Fault Refusal :=
  .next (inBlock i2cBit (respondLow (rawIntrStat s)) s)

/-- RD IC_TX_ABRT_SOURCE (42_i2c_data_status.md R368). -/
def execRdIcTxAbrtSource (s : State) : Host.Outcome State Fault Refusal :=
  .next (inBlock i2cBit (respondMasked abrtSourceDefined (abrtSourceWord s.i2c)) s)

/-- RD IC_CLR_INTR (42_i2c_data_status.md R371). -/
def execRdIcClrIntr (s : State) : Host.Outcome State Fault Refusal :=
  .next (inBlock i2cBit (fun t => respondFree (clearAbortSource (clearAllRaw t))) s)

/-- RD IC_CLR_ACTIVITY (42_i2c_data_status.md R372): cleared only while the controller is idle. -/
def execRdIcClrActivity (s : State) : Host.Outcome State Fault Refusal :=
  .next (inBlock i2cBit (clearRaw (fun r => { r with activity := mstActivity s })) s)

/-- RD IC_CLR_TX_ABRT (42_i2c_data_status.md R373, R375). -/
def execRdIcClrTxAbrt (s : State) : Host.Outcome State Fault Refusal :=
  .next (inBlock i2cBit
    (fun t => respondFree (clearAbortSource (setRaw t { t.ctrl.raw with txAbrt := false }))) s)

/-- RD IC_CLR_RX_UNDER (42_i2c_data_status.md R373). -/
def execRdIcClrRxUnder (s : State) : Host.Outcome State Fault Refusal :=
  .next (inBlock i2cBit (clearRaw (fun r => { r with rxUnder := false })) s)

/-- RD IC_CLR_RX_OVER (42_i2c_data_status.md R373). -/
def execRdIcClrRxOver (s : State) : Host.Outcome State Fault Refusal :=
  .next (inBlock i2cBit (clearRaw (fun r => { r with rxOver := false })) s)

/-- RD IC_CLR_TX_OVER (42_i2c_data_status.md R373). -/
def execRdIcClrTxOver (s : State) : Host.Outcome State Fault Refusal :=
  .next (inBlock i2cBit (clearRaw (fun r => { r with txOver := false })) s)

/-- RD IC_CLR_RD_REQ (42_i2c_data_status.md R373). -/
def execRdIcClrRdReq (s : State) : Host.Outcome State Fault Refusal :=
  .next (inBlock i2cBit (clearRaw (fun r => { r with rdReq := false })) s)

/-- RD IC_CLR_RX_DONE (42_i2c_data_status.md R373). -/
def execRdIcClrRxDone (s : State) : Host.Outcome State Fault Refusal :=
  .next (inBlock i2cBit (clearRaw (fun r => { r with rxDone := false })) s)

/-- RD IC_CLR_STOP_DET (42_i2c_data_status.md R373). -/
def execRdIcClrStopDet (s : State) : Host.Outcome State Fault Refusal :=
  .next (inBlock i2cBit (clearRaw (fun r => { r with stopDet := false })) s)

/-- RD IC_CLR_START_DET (42_i2c_data_status.md R373). -/
def execRdIcClrStartDet (s : State) : Host.Outcome State Fault Refusal :=
  .next (inBlock i2cBit (clearRaw (fun r => { r with startDet := false })) s)

/-- RD IC_CLR_GEN_CALL (42_i2c_data_status.md R373). -/
def execRdIcClrGenCall (s : State) : Host.Outcome State Fault Refusal :=
  .next (inBlock i2cBit (clearRaw (fun r => { r with genCall := false })) s)

/-- RD IC_CLR_RESTART_DET (42_i2c_data_status.md R373). -/
def execRdIcClrRestartDet (s : State) : Host.Outcome State Fault Refusal :=
  .next (inBlock i2cBit (clearRaw (fun r => { r with restartDet := false })) s)

end Sys2Proof.Machine
end

