-- ==== Sys2Proof/Machine/IoBank.lean ====
section
/-! DEFINITION. The IO_BANK0 registers (40_pin_mux.md R231, R232, R240). A pin index above 29 is no register
(30_encoding.md R162). -/

namespace Sys2Proof.Machine

/-- An access to a register of pin `n`, refused where the bank has no such pin (30_encoding.md R162). -/
def onPin (n : BitVec 5) (f : State → State) (s : State) : State :=
  if n.toNat ≤ 29 then f s else refuse .unmapped s

/-- The function selects that a write admits on pin `n` (40_pin_mux.md R231). -/
def funcselLegal (f : BitVec 5) (n : Nat) : Bool :=
  ((decide (1 ≤ f.toNat) && decide (f.toNat ≤ 9)) || f == 0x1F#5) &&
    (f != 8#5 || (decide (20 ≤ n) && decide (n ≤ 25)))

/-- The write of GPIOn_CTRL (40_pin_mux.md R231). -/
def writePinCtrl (n : Nat) (w : Word) (s : State) : State :=
  let new := pinCtrlOfWord w
  if funcselLegal new.funcsel n = false then refuse .funcselReserved s
  else if new.funcsel = 3#5 ∧ isI2c0Pin n ∧ otherPinSelects s n then refuse .i2c0SignalOnTwoPins s
  else setPinCtrl s n new

/-- GPIOn_STATUS at a moment (40_pin_mux.md R240); the level behind bits 17 and 19 is a level computation
of its own, at the next moment (R236). -/
def gpioStatusWord (s : State) (t n : Nat) : Word :=
  place 8 (bit1 (outFromPeri s t n)) ||| place 9 (bit1 (outToPad s t n)) |||
    place 12 (bit1 (oeFromPeri s t n)) ||| place 13 (bit1 (oeToPad s t n)) |||
    place 17 (bit1 (inFromPad s (t + 1) n)) ||| place 19 (bit1 (inToPeri s (t + 1) n))

/-- The defined bits of GPIOn_STATUS: 19, 17, 13, 12, 9 and 8 (40_pin_mux.md R240). -/
def gpioStatusDefined : Word := 0x000A3300#32

/-- The contention a level computation meets, where the input is enabled (40_pin_mux.md R235, R250). -/
def checkRead (t n : Nat) (s : State) : State := if (padOf s n).ie then checkNode t n s else s

/-- The read of GPIOn_STATUS (40_pin_mux.md R240). -/
def readGpioStatus (n : Nat) (s : State) : State :=
  let r := respondMasked gpioStatusDefined (gpioStatusWord s s.draws n) (checkRead (s.draws + 1) n s)
  { r with draws := s.draws + 2 }

/-- RD IO_BANK0.GPIOn_STATUS (40_pin_mux.md R240). -/
def execRdGpioStatus (n : BitVec 5) (s : State) : Host.Outcome State Fault Refusal :=
  .next (onPin n (inBlock ioBit (readGpioStatus n.toNat)) s)

/-- RD IO_BANK0.GPIOn_CTRL (40_pin_mux.md R232). -/
def execRdGpioCtrl (n : BitVec 5) (s : State) : Host.Outcome State Fault Refusal :=
  .next (onPin n (inBlock ioBit
    (respondMasked pinCtrlDefined (pinCtrlWord (pinCtrlOf s n.toNat)))) s)

/-- WR IO_BANK0.GPIOn_CTRL, v (40_pin_mux.md R231). -/
def execWrGpioCtrl (n : BitVec 5) (op : AliasOp) (v : Word) (s : State) :
    Host.Outcome State Fault Refusal :=
  let w := aliasApply op (pinCtrlWord (pinCtrlOf s n.toNat)) v
  .next (onPin n (inBlock ioBit (writePinCtrl n.toNat w)) s)

end Sys2Proof.Machine
end

