-- ==== Sys2Proof/Machine/Pads.lean ====
section
/-! DEFINITION. The PADS_BANK0 registers (40_pin_mux.md R248, R249). -/

namespace Sys2Proof.Machine

/-- RD PADS_BANK0.VOLTAGE_SELECT (40_pin_mux.md R248). -/
def execRdVoltageSelect (s : State) : Host.Outcome State Fault Refusal :=
  .next (inBlock padsBit (respondLow (bit1 s.pads.voltageSelect)) s)

/-- WR PADS_BANK0.VOLTAGE_SELECT, v (40_pin_mux.md R248): stored, with no effect. -/
def execWrVoltageSelect (op : AliasOp) (v : Word) (s : State) : Host.Outcome State Fault Refusal :=
  let w := aliasApply op (zext (bit1 s.pads.voltageSelect)) v
  .next (inBlock padsBit (fun t => { t with pads := { t.pads with voltageSelect := bitAt w 0 } }) s)

/-- RD PADS_BANK0.GPIOn (40_pin_mux.md R249). -/
def execRdPadGpio (n : BitVec 5) (s : State) : Host.Outcome State Fault Refusal :=
  .next (onPin n (inBlock padsBit (respondLow (padWord (padOf s n.toNat)))) s)

/-- WR PADS_BANK0.GPIOn, v (40_pin_mux.md R249). -/
def execWrPadGpio (n : BitVec 5) (op : AliasOp) (v : Word) (s : State) :
    Host.Outcome State Fault Refusal :=
  let w := aliasApply op (zext (padWord (padOf s n.toNat))) v
  .next (onPin n (inBlock padsBit (fun t => setPad t n.toNat (padOfWord w))) s)

end Sys2Proof.Machine
end

