-- ==== Sys2Proof/Machine/Resets.lean ====
section
/-! DEFINITION. The RESETS registers (40_pin_mux.md R200 to R206). RESETS is always accessible (20_memory.md R111). -/

namespace Sys2Proof.Machine

/-- RD RESETS.RESET (40_pin_mux.md R200). -/
def execRdResetsReset (s : State) : Host.Outcome State Fault Refusal :=
  .next (respondLow s.resets.reset s)

/-- WR RESETS.RESET, v (40_pin_mux.md R201, R204). -/
def execWrResetsReset (op : AliasOp) (v : Word) (s : State) : Host.Outcome State Fault Refusal :=
  .next (writeResets (fieldAt (aliasApply op (zext s.resets.reset) v) 0 25) s)

/-- RD RESETS.WDSEL (40_pin_mux.md R202). -/
def execRdResetsWdsel (s : State) : Host.Outcome State Fault Refusal :=
  .next (respondLow s.resets.wdsel s)

/-- WR RESETS.WDSEL, v (40_pin_mux.md R202): stored, with no effect. -/
def execWrResetsWdsel (op : AliasOp) (v : Word) (s : State) : Host.Outcome State Fault Refusal :=
  let w := aliasApply op (zext s.resets.wdsel) v
  .next { s with resets := { s.resets with wdsel := fieldAt w 0 25 } }

/-- RD RESETS.RESET_DONE (40_pin_mux.md R203). -/
def execRdResetsResetDone (s : State) : Host.Outcome State Fault Refusal :=
  .next (respondLow s.resets.done s)

end Sys2Proof.Machine
end

