-- ==== Sys2Proof/Machine/Sio.lean ====
section
/-! DEFINITION. The SIO registers (40_pin_mux.md R260 to R263). SIO is always accessible (20_memory.md R111). A read
of a write-only register returns a free word and has no side effect (20_memory.md R102). -/

namespace Sys2Proof.Machine

/-- The state with GPIO_OUT or GPIO_OE replaced. -/
def setGpioOut (x : BitVec 30) (s : State) : State := { s with sio := { s.sio with gpioOut := x } }
def setGpioOe (x : BitVec 30) (s : State) : State := { s with sio := { s.sio with gpioOe := x } }

/-- `v[29:0]`, one bit per pin (10_state.md R72). -/
def pinBits (v : Word) : BitVec 30 := fieldAt v 0 30

/-- Bits `k-1:0` of GPIO_IN: `infrompad` of each pin (40_pin_mux.md R260). -/
def gpioInWord (s : State) (t : Nat) : Nat → Word
  | 0 => 0
  | k + 1 => gpioInWord s t k ||| (zext (bit1 (inFromPad s t k)) <<< k)

/-- The contention that the level computations of pins `k-1..0` meet (40_pin_mux.md R250). -/
def checkReads (t : Nat) : Nat → State → State
  | 0, s => s
  | k + 1, s => checkRead t k (checkReads t k s)

/-- The read of GPIO_IN (40_pin_mux.md R260): bits 31:30 are free. -/
def readGpioIn (s : State) : State :=
  respondMasked 0x3FFFFFFF#32 (gpioInWord s s.draws Config.nGpio) (checkReads s.draws Config.nGpio s)

/-- RD SIO.CPUID: the HOST is core 0 (40_pin_mux.md R263). -/
def execRdSioCpuid (s : State) : Host.Outcome State Fault Refusal :=
  .next (respond 0 s)

/-- RD SIO.GPIO_IN (40_pin_mux.md R260). -/
def execRdSioGpioIn (s : State) : Host.Outcome State Fault Refusal :=
  .next (readGpioIn s)

/-- RD SIO.GPIO_OUT (40_pin_mux.md R261). -/
def execRdSioGpioOut (s : State) : Host.Outcome State Fault Refusal :=
  .next (respondLow s.sio.gpioOut s)

/-- WR SIO.GPIO_OUT, v (40_pin_mux.md R261). -/
def execWrSioGpioOut (v : Word) (s : State) : Host.Outcome State Fault Refusal :=
  .next (setGpioOut (pinBits v) s)

/-- RD SIO.GPIO_OUT_SET, write-only (20_memory.md R102). -/
def execRdSioGpioOutSet (s : State) : Host.Outcome State Fault Refusal :=
  .next (respondFree s)

/-- WR SIO.GPIO_OUT_SET, v (40_pin_mux.md R262). -/
def execWrSioGpioOutSet (v : Word) (s : State) : Host.Outcome State Fault Refusal :=
  .next (setGpioOut (s.sio.gpioOut ||| pinBits v) s)

/-- RD SIO.GPIO_OUT_CLR, write-only (20_memory.md R102). -/
def execRdSioGpioOutClr (s : State) : Host.Outcome State Fault Refusal :=
  .next (respondFree s)

/-- WR SIO.GPIO_OUT_CLR, v (40_pin_mux.md R262). -/
def execWrSioGpioOutClr (v : Word) (s : State) : Host.Outcome State Fault Refusal :=
  .next (setGpioOut (s.sio.gpioOut &&& ~~~pinBits v) s)

/-- RD SIO.GPIO_OUT_XOR, write-only (20_memory.md R102). -/
def execRdSioGpioOutXor (s : State) : Host.Outcome State Fault Refusal :=
  .next (respondFree s)

/-- WR SIO.GPIO_OUT_XOR, v (40_pin_mux.md R262). -/
def execWrSioGpioOutXor (v : Word) (s : State) : Host.Outcome State Fault Refusal :=
  .next (setGpioOut (s.sio.gpioOut ^^^ pinBits v) s)

/-- RD SIO.GPIO_OE (40_pin_mux.md R261). -/
def execRdSioGpioOe (s : State) : Host.Outcome State Fault Refusal :=
  .next (respondLow s.sio.gpioOe s)

/-- WR SIO.GPIO_OE, v (40_pin_mux.md R261). -/
def execWrSioGpioOe (v : Word) (s : State) : Host.Outcome State Fault Refusal :=
  .next (setGpioOe (pinBits v) s)

/-- RD SIO.GPIO_OE_SET, write-only (20_memory.md R102). -/
def execRdSioGpioOeSet (s : State) : Host.Outcome State Fault Refusal :=
  .next (respondFree s)

/-- WR SIO.GPIO_OE_SET, v (40_pin_mux.md R262). -/
def execWrSioGpioOeSet (v : Word) (s : State) : Host.Outcome State Fault Refusal :=
  .next (setGpioOe (s.sio.gpioOe ||| pinBits v) s)

/-- RD SIO.GPIO_OE_CLR, write-only (20_memory.md R102). -/
def execRdSioGpioOeClr (s : State) : Host.Outcome State Fault Refusal :=
  .next (respondFree s)

/-- WR SIO.GPIO_OE_CLR, v (40_pin_mux.md R262). -/
def execWrSioGpioOeClr (v : Word) (s : State) : Host.Outcome State Fault Refusal :=
  .next (setGpioOe (s.sio.gpioOe &&& ~~~pinBits v) s)

/-- RD SIO.GPIO_OE_XOR, write-only (20_memory.md R102). -/
def execRdSioGpioOeXor (s : State) : Host.Outcome State Fault Refusal :=
  .next (respondFree s)

/-- WR SIO.GPIO_OE_XOR, v (40_pin_mux.md R262). -/
def execWrSioGpioOeXor (v : Word) (s : State) : Host.Outcome State Fault Refusal :=
  .next (setGpioOe (s.sio.gpioOe ^^^ pinBits v) s)

end Sys2Proof.Machine
end

