-- ==== Sys2Proof/Machine/Dispatch.lean ====
section
/-! DEFINITION. exec: one arm per instruction, each a call of its meaning. -/

namespace Sys2Proof.Machine

def exec (i : Instr) (s : State) : Host.Outcome State Fault Refusal :=
  match i with
  | .rdIcCon => Sys2Proof.Machine.execRdIcCon s
  | .wrIcCon op v => Sys2Proof.Machine.execWrIcCon op v s
  | .rdIcTar => Sys2Proof.Machine.execRdIcTar s
  | .wrIcTar op v => Sys2Proof.Machine.execWrIcTar op v s
  | .rdIcSar => Sys2Proof.Machine.execRdIcSar s
  | .wrIcSar op v => Sys2Proof.Machine.execWrIcSar op v s
  | .rdIcDataCmd => Sys2Proof.Machine.execRdIcDataCmd s
  | .wrIcDataCmd v => Sys2Proof.Machine.execWrIcDataCmd v s
  | .rdIcSsSclHcnt => Sys2Proof.Machine.execRdIcSsSclHcnt s
  | .wrIcSsSclHcnt op v => Sys2Proof.Machine.execWrIcSsSclHcnt op v s
  | .rdIcSsSclLcnt => Sys2Proof.Machine.execRdIcSsSclLcnt s
  | .wrIcSsSclLcnt op v => Sys2Proof.Machine.execWrIcSsSclLcnt op v s
  | .rdIcFsSclHcnt => Sys2Proof.Machine.execRdIcFsSclHcnt s
  | .wrIcFsSclHcnt op v => Sys2Proof.Machine.execWrIcFsSclHcnt op v s
  | .rdIcFsSclLcnt => Sys2Proof.Machine.execRdIcFsSclLcnt s
  | .wrIcFsSclLcnt op v => Sys2Proof.Machine.execWrIcFsSclLcnt op v s
  | .rdIcIntrStat => Sys2Proof.Machine.execRdIcIntrStat s
  | .rdIcIntrMask => Sys2Proof.Machine.execRdIcIntrMask s
  | .wrIcIntrMask op v => Sys2Proof.Machine.execWrIcIntrMask op v s
  | .rdIcRawIntrStat => Sys2Proof.Machine.execRdIcRawIntrStat s
  | .rdIcRxTl => Sys2Proof.Machine.execRdIcRxTl s
  | .wrIcRxTl op v => Sys2Proof.Machine.execWrIcRxTl op v s
  | .rdIcTxTl => Sys2Proof.Machine.execRdIcTxTl s
  | .wrIcTxTl op v => Sys2Proof.Machine.execWrIcTxTl op v s
  | .rdIcClrIntr => Sys2Proof.Machine.execRdIcClrIntr s
  | .rdIcClrRxUnder => Sys2Proof.Machine.execRdIcClrRxUnder s
  | .rdIcClrRxOver => Sys2Proof.Machine.execRdIcClrRxOver s
  | .rdIcClrTxOver => Sys2Proof.Machine.execRdIcClrTxOver s
  | .rdIcClrRdReq => Sys2Proof.Machine.execRdIcClrRdReq s
  | .rdIcClrTxAbrt => Sys2Proof.Machine.execRdIcClrTxAbrt s
  | .rdIcClrRxDone => Sys2Proof.Machine.execRdIcClrRxDone s
  | .rdIcClrActivity => Sys2Proof.Machine.execRdIcClrActivity s
  | .rdIcClrStopDet => Sys2Proof.Machine.execRdIcClrStopDet s
  | .rdIcClrStartDet => Sys2Proof.Machine.execRdIcClrStartDet s
  | .rdIcClrGenCall => Sys2Proof.Machine.execRdIcClrGenCall s
  | .rdIcEnable => Sys2Proof.Machine.execRdIcEnable s
  | .wrIcEnable v => Sys2Proof.Machine.execWrIcEnable v s
  | .rdIcStatus => Sys2Proof.Machine.execRdIcStatus s
  | .rdIcTxflr => Sys2Proof.Machine.execRdIcTxflr s
  | .rdIcRxflr => Sys2Proof.Machine.execRdIcRxflr s
  | .rdIcSdaHold => Sys2Proof.Machine.execRdIcSdaHold s
  | .wrIcSdaHold op v => Sys2Proof.Machine.execWrIcSdaHold op v s
  | .rdIcTxAbrtSource => Sys2Proof.Machine.execRdIcTxAbrtSource s
  | .rdIcSlvDataNackOnly => Sys2Proof.Machine.execRdIcSlvDataNackOnly s
  | .wrIcSlvDataNackOnly op v => Sys2Proof.Machine.execWrIcSlvDataNackOnly op v s
  | .rdIcDmaCr => Sys2Proof.Machine.execRdIcDmaCr s
  | .wrIcDmaCr op v => Sys2Proof.Machine.execWrIcDmaCr op v s
  | .rdIcDmaTdlr => Sys2Proof.Machine.execRdIcDmaTdlr s
  | .wrIcDmaTdlr op v => Sys2Proof.Machine.execWrIcDmaTdlr op v s
  | .rdIcDmaRdlr => Sys2Proof.Machine.execRdIcDmaRdlr s
  | .wrIcDmaRdlr op v => Sys2Proof.Machine.execWrIcDmaRdlr op v s
  | .rdIcSdaSetup => Sys2Proof.Machine.execRdIcSdaSetup s
  | .wrIcSdaSetup op v => Sys2Proof.Machine.execWrIcSdaSetup op v s
  | .rdIcAckGeneralCall => Sys2Proof.Machine.execRdIcAckGeneralCall s
  | .wrIcAckGeneralCall op v => Sys2Proof.Machine.execWrIcAckGeneralCall op v s
  | .rdIcEnableStatus => Sys2Proof.Machine.execRdIcEnableStatus s
  | .rdIcFsSpklen => Sys2Proof.Machine.execRdIcFsSpklen s
  | .wrIcFsSpklen op v => Sys2Proof.Machine.execWrIcFsSpklen op v s
  | .rdIcClrRestartDet => Sys2Proof.Machine.execRdIcClrRestartDet s
  | .rdIcCompParam1 => Sys2Proof.Machine.execRdIcCompParam1 s
  | .rdIcCompVersion => Sys2Proof.Machine.execRdIcCompVersion s
  | .rdIcCompType => Sys2Proof.Machine.execRdIcCompType s
  | .rdResetsReset => Sys2Proof.Machine.execRdResetsReset s
  | .wrResetsReset op v => Sys2Proof.Machine.execWrResetsReset op v s
  | .rdResetsWdsel => Sys2Proof.Machine.execRdResetsWdsel s
  | .wrResetsWdsel op v => Sys2Proof.Machine.execWrResetsWdsel op v s
  | .rdResetsResetDone => Sys2Proof.Machine.execRdResetsResetDone s
  | .rdGpioStatus n => Sys2Proof.Machine.execRdGpioStatus n s
  | .rdGpioCtrl n => Sys2Proof.Machine.execRdGpioCtrl n s
  | .wrGpioCtrl n op v => Sys2Proof.Machine.execWrGpioCtrl n op v s
  | .rdVoltageSelect => Sys2Proof.Machine.execRdVoltageSelect s
  | .wrVoltageSelect op v => Sys2Proof.Machine.execWrVoltageSelect op v s
  | .rdPadGpio n => Sys2Proof.Machine.execRdPadGpio n s
  | .wrPadGpio n op v => Sys2Proof.Machine.execWrPadGpio n op v s
  | .rdSioCpuid => Sys2Proof.Machine.execRdSioCpuid s
  | .rdSioGpioIn => Sys2Proof.Machine.execRdSioGpioIn s
  | .rdSioGpioOut => Sys2Proof.Machine.execRdSioGpioOut s
  | .wrSioGpioOut v => Sys2Proof.Machine.execWrSioGpioOut v s
  | .rdSioGpioOutSet => Sys2Proof.Machine.execRdSioGpioOutSet s
  | .wrSioGpioOutSet v => Sys2Proof.Machine.execWrSioGpioOutSet v s
  | .rdSioGpioOutClr => Sys2Proof.Machine.execRdSioGpioOutClr s
  | .wrSioGpioOutClr v => Sys2Proof.Machine.execWrSioGpioOutClr v s
  | .rdSioGpioOutXor => Sys2Proof.Machine.execRdSioGpioOutXor s
  | .wrSioGpioOutXor v => Sys2Proof.Machine.execWrSioGpioOutXor v s
  | .rdSioGpioOe => Sys2Proof.Machine.execRdSioGpioOe s
  | .wrSioGpioOe v => Sys2Proof.Machine.execWrSioGpioOe v s
  | .rdSioGpioOeSet => Sys2Proof.Machine.execRdSioGpioOeSet s
  | .wrSioGpioOeSet v => Sys2Proof.Machine.execWrSioGpioOeSet v s
  | .rdSioGpioOeClr => Sys2Proof.Machine.execRdSioGpioOeClr s
  | .wrSioGpioOeClr v => Sys2Proof.Machine.execWrSioGpioOeClr v s
  | .rdSioGpioOeXor => Sys2Proof.Machine.execRdSioGpioOeXor s
  | .wrSioGpioOeXor v => Sys2Proof.Machine.execWrSioGpioOeXor v s
  | .cmdW dat => Sys2Proof.Machine.execCmdW dat s
  | .cmdR dat => Sys2Proof.Machine.execCmdR dat s
  | .cmdWStop dat => Sys2Proof.Machine.execCmdWStop dat s
  | .cmdRStop dat => Sys2Proof.Machine.execCmdRStop dat s
  | .cmdWRestart dat => Sys2Proof.Machine.execCmdWRestart dat s
  | .cmdRRestart dat => Sys2Proof.Machine.execCmdRRestart dat s
  | .cmdWRestartStop dat => Sys2Proof.Machine.execCmdWRestartStop dat s
  | .cmdRRestartStop dat => Sys2Proof.Machine.execCmdRRestartStop dat s

end Sys2Proof.Machine
end

