-- ==== Sys2Proof/Machine/Agents.lean ====
section
/-! DEFINITION. The steps of CTRL other than S_XFER (S_POP and S_ABORT, 43_i2c_fsm.md R423, R450), of BUSENV
(R440) and of RSTAGENT (40_pin_mux.md R205), each a guard and an effect, and one controller-clock cycle
of the timing refinement. -/

namespace Sys2Proof.Machine

/-- The guard of S_POP (43_i2c_fsm.md R423). -/
def popEnabled (s : State) : Bool :=
  ctrlLive s && !s.i2c.enable.abort && !s.ctrl.flushHold && !s.i2c.enable.txCmdBlock &&
    s.ctrl.shift.isNone && !s.ctrl.txq.isEmpty

/-- The effect of S_POP: the oldest command is taken in hand (43_i2c_fsm.md R423). -/
def popCommand (s : State) : State :=
  match s.ctrl.txq with
  | [] => s
  | c :: rest =>
    { s with ctrl := { s.ctrl with
        shift := some c, txq := rest, raw := { s.ctrl.raw with activity := true } } }

/-- The guard of S_ABORT (43_i2c_fsm.md R450): it waits for nothing on the wires. -/
def abortEnabled (s : State) : Bool := ctrlLive s && s.i2c.enable.abort

/-- The effect of S_ABORT (43_i2c_fsm.md R450): a pending ACK slot as MNACK, STOP where the bus is held,
the abort entry with the user's cause, and the request is cleared. -/
def userAbort (s : State) : State :=
  let p :=
    if s.ctrl.rxAckPending then
      let t := emit .mnack s
      { t with ctrl := { t.ctrl with rxAckPending := false } }
    else s
  let q := if p.ctrl.owned then setStopDet (emit .stop p) else p
  let r := abortEntry .userAbort q
  { r with i2c := { r.i2c with enable := { r.i2c.enable with abort := false } } }

/-- S_XFER is enabled for the command in hand (43_i2c_fsm.md R429). -/
def xferReady (s : State) : Bool :=
  match s.ctrl.shift with
  | some c => xferEnabled c s
  | none => false

/-- The guards of BUSENV's steps (43_i2c_fsm.md R440). -/
def envEnabled (e : EnvStep) (s : State) : Bool :=
  match e with
  | .eStart => !s.ctrl.owned && !s.wires.otherBusy && !s.wires.envSdaLow && !s.wires.envSclLow
  | .eStop => s.wires.otherBusy && !s.ctrl.owned
  | .eSclLow => true
  | .eSclFree => true
  | .eSdaLow => !s.ctrl.owned
  | .eSdaFree => true

/-- The wires changed. -/
def updWires (f : Wires → Wires) (s : State) : State := { s with wires := f s.wires }

/-- The effects of BUSENV's steps (43_i2c_fsm.md R440). -/
def envEffect (e : EnvStep) (s : State) : State :=
  match e with
  | .eStart =>
    let t := emitEnv .envStart (updWires (fun w => { w with otherBusy := true }) s)
    if t.ctrl.icEn then setStartDet t else t
  | .eStop =>
    let t := emitEnv .envStop (updWires (fun w => { w with otherBusy := false }) s)
    if t.ctrl.icEn then setStopDet t else t
  | .eSclLow => updWires (fun w => { w with envSclLow := true }) s
  | .eSclFree => updWires (fun w => { w with envSclLow := false }) s
  | .eSdaLow => updWires (fun w => { w with envSdaLow := true }) s
  | .eSdaFree => updWires (fun w => { w with envSdaLow := false }) s

/-- The guard of RSTAGENT's release step for bit `i` (40_pin_mux.md R205). -/
def releaseEnabled (i : Fin 25) (s : State) : Bool :=
  !s.resets.reset.getLsbD i && !s.resets.done.getLsbD i

/-- The effect of the release step: RESET_DONE[i] becomes 1 (40_pin_mux.md R205). -/
def release (i : Fin 25) (s : State) : State :=
  { s with resets := { s.resets with done := s.resets.done ||| (1#25 <<< i.val) } }

/-- A step of CTRL that decodes no command: S_ABORT or S_POP where enabled (43_i2c_fsm.md R422), no step
otherwise. -/
def ctrlLocal (s : State) : State :=
  if abortEnabled s then settle (userAbort s)
  else if popEnabled s then settle (popCommand s)
  else s

/-- A step of BUSENV, where enabled. -/
def envLocal (e : EnvStep) (s : State) : State :=
  if envEnabled e s then settle (envEffect e s) else s

/-- A step of RSTAGENT, where enabled. -/
def rstLocal (i : Fin 25) (s : State) : State :=
  if releaseEnabled i s then settle (release i s) else s

/-- One controller-clock cycle of the refinement: it changes the cycle-level state alone, `phase` and `cnt` with
`segments`, `sdaLine` and `sdaDue` (10_state.md R66). -/
def clkLocal (s : State) : State := { clockTick s with draws := s.draws + 1 }

end Sys2Proof.Machine
end

