-- ==== Sys2Proof/Machine/HostProgram.lean ====
section
/-! DEFINITION. The HOST agent (30_encoding.md R190): expressions and comparisons of its programs, the
access a statement makes, what the statement does with the access's answer, and the statements that make
no access. One HOST step is one statement, or one iteration of a POLL. -/

namespace Sys2Proof.Machine

/-- A two-operand operator on 32-bit unsigned numbers (30_encoding.md R190, 00_scope.md R11). A division
by 0 has no value in the spec: a free one. -/
def evalBin (op : BinOp) (a b : Word) : Word :=
  match op with
  | .and => a &&& b
  | .or => a ||| b
  | .xor => a ^^^ b
  | .add => a + b
  | .sub => a - b
  | .shl => a <<< b.toNat
  | .shr => a >>> b.toNat
  | .div => if b = 0 then Config.divByZero a else a / b
  | .mod => if b = 0 then Config.modByZero a else a % b

/-- The value of an expression over the temporaries (30_encoding.md R190). -/
def evalExpr (temps : List (Nat × Word)) : Expr → Word
  | .const w => w
  | .temp t => tempGet temps t
  | .not e => ~~~(evalExpr temps e)
  | .bin op a b => evalBin op (evalExpr temps a) (evalExpr temps b)
  | .byteAt bytes i =>
    match bytes[(evalExpr temps i).toNat]? with
    | some b => zext b
    | none => Config.byteOutOfRange (evalExpr temps i)

/-- The truth of a comparison (30_encoding.md R190). -/
def evalCond (temps : List (Nat × Word)) (c : Cond) : Bool :=
  let a := (evalExpr temps c.a).toNat
  let b := (evalExpr temps c.b).toNat
  match c.op with
  | .eq => a == b
  | .ne => a != b
  | .lt => decide (a < b)
  | .le => decide (a ≤ b)
  | .gt => decide (b < a)
  | .ge => decide (b ≤ a)

/-- The statement the HOST is at; none where it has ended (30_encoding.md R190, 60_exceptions.md R613). -/
def currentStmt (h : HostState) : Option Stmt := if h.halted then none else h.prog[h.pc]?

/-- ACC of a read and of a write at byte address `a` (30_encoding.md R151). -/
def accRead (a : Word) : BitVec 33 := BitVec.ofBool false ++ a
def accWrite (a : Word) : BitVec 33 := BitVec.ofBool true ++ a

/-- The access a statement makes (30_encoding.md R190); none for a statement that makes none. -/
def stmtAccess (h : HostState) : Stmt → Option Code
  | .rd n a _ => some (.acc n (accRead a) 0)
  | .wr n a e => some (.acc n (accWrite a) (evalExpr h.temps e))
  | .poll a _ _ => some (.acc 4 (accRead a) 0)
  | .pollne a _ _ => some (.acc 4 (accRead a) 0)
  | .ifGoto _ _ => none
  | .goto _ => none
  | .letTemp _ _ => none
  | .ret _ => none
  | .halt => none
  | .raiseRefuse _ => none
  | .requirePins => none
  | .requirePinBanks => none

/-- The HOST's state changed. -/
def updHost (f : HostState → HostState) (s : State) : State := { s with host := f s.host }

/-- The HOST at statement `l`. -/
def jumpTo (l : Nat) (s : State) : State := updHost (fun h => { h with pc := l }) s

/-- The HOST at its next statement. -/
def nextStmt (s : State) : State := updHost (fun h => { h with pc := h.pc + 1 }) s

/-- A temporary written. -/
def writeTemp (t : Nat) (v : Word) (s : State) : State :=
  updHost (fun h => { h with temps := tempSet h.temps t v }) s

/-- A POLL goes on where the value read ends it, and stays where it does not or the access returned no
value (30_encoding.md R190). -/
def pollEnds (stop : Word → Bool) (s : State) : State :=
  match s.host.readData with
  | some v => if stop v then nextStmt s else s
  | none => s

/-- What a statement does after its access (30_encoding.md R190): a read value enters its temporary; an
access that returned none (a refused one) leaves the temporary as it is. -/
def retire (st : Stmt) (s : State) : State :=
  match st with
  | .rd _ _ (some t) =>
    match s.host.readData with
    | some v => nextStmt (writeTemp t v s)
    | none => nextStmt s
  | .poll _ m x => pollEnds (fun v => v &&& m == x) s
  | .pollne _ m x => pollEnds (fun v => v &&& m != x) s
  | _ => nextStmt s

/-- The HOST takes no further step. For RETURN this is a DESIGN CHOICE (log entry 30): R190 says only that it ends
the operation, not what follows in a longer program. -/
def hostEnds (r : Option Word) (s : State) : State :=
  updHost (fun h => { h with halted := true, result := r }) s

/-- The statements that make no access (30_encoding.md R190). A failed precondition marks the run and ends
the operation before any access (44_driver_ops.md). DESIGN CHOICE (log entry 30): a RETURN ends the program, also
where its operation stands in a longer one. -/
def localStmt (st : Stmt) (s : State) : State :=
  match st with
  | .ifGoto c l => if evalCond s.host.temps c then jumpTo l s else nextStmt s
  | .goto l => jumpTo l s
  | .letTemp t e => nextStmt (writeTemp t (evalExpr s.host.temps e) s)
  | .ret e => hostEnds (some (evalExpr s.host.temps e)) s
  | .halt => hostEnds s.host.result s
  | .raiseRefuse r => hostEnds s.host.result (refuse r s)
  | .requirePins =>
    if i2cPinOk s Config.sdaPin && i2cPinOk s Config.sclPin then nextStmt s
    else hostEnds s.host.result (refuse .pinsNotConfigured s)
  | .requirePinBanks =>
    if s.resets.done.getLsbD ioBit && s.resets.done.getLsbD padsBit then nextStmt s
    else hostEnds s.host.result (refuse .blockInReset s)
  | .rd _ _ _ => s
  | .wr _ _ _ => s
  | .poll _ _ _ => s
  | .pollne _ _ _ => s

/-- The access the HOST makes next, if its statement makes one. -/
def hostFetch (s : State) : Option Code := (currentStmt s.host).bind (stmtAccess s.host)

/-- The HOST's statement retired after its access, then the end of the step. -/
def hostFinish (s : State) : State :=
  match currentStmt s.host with
  | some st => settle (retire st s)
  | none => settle s

/-- A HOST step that makes no access; no step where the HOST has ended. -/
def hostLocal (s : State) : State :=
  match currentStmt s.host with
  | some st => settle (localStmt st s)
  | none => s

/-- The command CTRL performs next, as its CMDW word, where S_XFER is enabled (43_i2c_fsm.md R429). -/
def ctrlFetch (s : State) : Option Code :=
  if xferReady s then s.ctrl.shift.map (fun c => .cmdw (wordOfCmd c)) else none

/-! ### What a turn does, around exec -/

/-- The instruction the agent of a turn runs; none for a step that runs none. -/
def fetch (t : Turn) (s : State) : Option Code :=
  match t with
  | .host => hostFetch s
  | .ctrl => ctrlFetch s
  | .env _ => none
  | .rst _ => none
  | .clk => none

/-- What follows the instruction of a turn. -/
def finish (t : Turn) (s : State) : State :=
  match t with
  | .host => hostFinish s
  | .ctrl => settle s
  | .env _ => settle s
  | .rst _ => settle s
  | .clk => settle s

/-- A turn whose step runs no instruction. -/
def localStep (t : Turn) (s : State) : State :=
  match t with
  | .host => hostLocal s
  | .ctrl => ctrlLocal s
  | .env e => envLocal e s
  | .rst i => rstLocal i s
  | .clk => clkLocal s

/-- Whose turn it is (00_scope.md R7): the agenda's head, and a free choice where the agenda is empty. -/
def nextTurn (s : State) : Turn :=
  match s.script.agenda with
  | t :: _ => t
  | [] => Config.freeTurn s.draws

/-- The state in which the turn is taken: the agenda has moved on, and no value has been read yet. -/
def beginTurn (s : State) : State :=
  let t := updHost (fun h => { h with readData := none }) s
  match s.script.agenda with
  | _ :: rest => { t with script := { t.script with agenda := rest } }
  | [] => { t with draws := t.draws + 1 }

/-- The statement of an access, as the HOST would write it: ACC's W bit chooses RD or WR
(30_encoding.md R151, R190). -/
def stmtOfAcc (n : Nat) (acc : BitVec 33) (v : Word) : Stmt :=
  if accIsWrite acc then .wr n (acc.setWidth 32) (.const v) else .rd n (acc.setWidth 32) none

/-- The state with a HOST program of one access loaded, its turn next. -/
def loadAccess (n : Nat) (acc : BitVec 33) (v : Word) (s : State) : State :=
  { s with
    host := { s.host with prog := [stmtOfAcc n acc v], pc := 0, halted := false }
    script := { s.script with agenda := [.host] } }

/-- The state with a command in the controller's hand and S_XFER enabled (43_i2c_fsm.md R429), its turn
next: the controller enabled and out of reset, no abort requested, the wires free, room in RXQ. -/
def loadCommand (c : Cmd) (s : State) : State :=
  { s with
    i2c := { s.i2c with enable := { s.i2c.enable with enable := true, abort := false } }
    ctrl := { s.ctrl with
      icEn := true
      shift := some c
      rxq := if s.ctrl.rxq.length = Config.rxDepth then [] else s.ctrl.rxq }
    resets := { s.resets with
      reset := s.resets.reset &&& ~~~(1#25 <<< i2cBit)
      done := s.resets.done ||| (1#25 <<< i2cBit) }
    wires := { envSdaLow := false, envSclLow := false, otherBusy := false }
    script := { s.script with agenda := [.ctrl] } }

/-- An instruction's code placed where the next step fetches it. -/
def loadCode (c : Code) (s : State) : State :=
  match c with
  | .acc n acc v => loadAccess n acc v s
  | .cmdw w => loadCommand (cmdOfWord w) s

end Sys2Proof.Machine
end

