-- ==== Sys2Proof/Machine/Step.lean ====
section
/-! DEFINITION. One step of the machine: the agent whose turn it is takes its step (00_scope.md R7,
20_memory.md R112, R113). A HOST access and a controller command are decoded and run by exec; an access
that decodes to no register is refused; every other step is the agent's own. -/

namespace Sys2Proof.Machine

/-- One step. -/
def step (s : State) : Host.Outcome State Fault Refusal :=
  match fetch (nextTurn s) (beginTurn s) with
  | some c =>
    match decode c with
    | .ok i =>
      match exec i (beginTurn s) with
      | .next t => .next (finish (nextTurn s) t)
      | .fault f => .fault f
      | .refused r => .refused r
    | .error r => .next (finish (nextTurn s) (refuse r (beginTurn s)))
  | none => .next (localStep (nextTurn s) (beginTurn s))

/-- The state with an instruction of the opcode table where the next step fetches it: an access as the
HOST's program, a command in the controller's hand. -/
def State.withFetchWord (s : State) (nbits w : Nat) : State := loadCode (codeOfTableWord nbits w) s

end Sys2Proof.Machine
end

