-- ==== Sys2Proof/Machine/Drivers.lean ====
section
/-! DEFINITION. The reference host operations (44_driver_ops.md) and pseudo-operations (30_encoding.md
R191) as HOST programs: lists of statements whose labels are indices from the program's first
statement. -/

namespace Sys2Proof.Machine

/-! ### Symbolic names (30_encoding.md R190) -/

def addrResetsReset : Word := 0x4000C000
def addrResetsDone : Word := 0x4000C008
def addrI2c0 (off : Word) : Word := 0x40044000 + off
def addrIcCon : Word := addrI2c0 0x00
def addrIcTar : Word := addrI2c0 0x04
def addrIcDataCmd : Word := addrI2c0 0x10
def addrIcIntrMask : Word := addrI2c0 0x30
def addrIcRawIntrStat : Word := addrI2c0 0x34
def addrIcRxTl : Word := addrI2c0 0x38
def addrIcTxTl : Word := addrI2c0 0x3C
def addrIcClrTxAbrt : Word := addrI2c0 0x54
def addrIcClrStopDet : Word := addrI2c0 0x60
def addrIcEnable : Word := addrI2c0 0x6C
def addrIcSdaHold : Word := addrI2c0 0x7C
def addrIcTxAbrtSource : Word := addrI2c0 0x80
def addrIcFsSpklen : Word := addrI2c0 0xA0
/-- IC_SS_SCL_HCNT or IC_FS_SCL_HCNT, and the LCNT of the same pair. -/
def addrHcnt (ss : Bool) : Word := if ss then addrI2c0 0x14 else addrI2c0 0x1C
def addrLcnt (ss : Bool) : Word := if ss then addrI2c0 0x18 else addrI2c0 0x20
/-- `IO_BANK0.GPIOn_CTRL` and `PADS_BANK0.GPIOn`. -/
def addrGpioCtrl (n : Nat) : Word := 0x40014004 + BitVec.ofNat 32 (8 * n)
def addrPad (n : Nat) : Word := 0x4001C004 + BitVec.ofNat 32 (4 * n)
/-- `@XOR`, `@SET` and `@CLR` add 0x1000, 0x2000 and 0x3000. -/
def atXor (a : Word) : Word := a + 0x1000
def atSet (a : Word) : Word := a + 0x2000
def atClr (a : Word) : Word := a + 0x3000

/-! ### Pseudo-operations (30_encoding.md R191) -/

/-- `WR a, w` of a constant. -/
def wrConst (a w : Word) : Stmt := .wr 4 a (.const w)

/- DESIGN CHOICE (log entry 29): R191 does not say what the `m` and `x` of SETBITS, CLRBITS, XORBITS and
MODIFY are; here they are constants. -/
def setBitsOp (a m : Word) : List Stmt := [wrConst (atSet a) m]
def clrBitsOp (a m : Word) : List Stmt := [wrConst (atClr a) m]
def xorBitsOp (a m : Word) : List Stmt := [wrConst (atXor a) m]

/-- `MODIFY a, m, x` through temporary `t`: two accesses, not atomic. `m` and `x` are constants (DESIGN CHOICE,
log entry 29). -/
def modifyOp (t : Nat) (a m x : Word) : List Stmt :=
  [.rd 4 a (some t),
   .wr 4 a (.bin .or (.bin .and (.temp t) (.not (.const m))) (.bin .and (.const x) (.const m)))]

/-- `1 << b`. -/
def bitMask (b : Nat) : Word := 1#32 <<< b

def waitResetDone (b : Nat) : List Stmt := [.poll addrResetsDone (bitMask b) (bitMask b)]

def resetCycle (b : Nat) : List Stmt :=
  setBitsOp addrResetsReset (bitMask b) ++ clrBitsOp addrResetsReset (bitMask b) ++ waitResetDone b

/-! ### Pins (44_driver_ops.md R500 to R502) -/

def pinbankInit : List Stmt := resetCycle 5 ++ resetCycle 8

/-- `PIN_RECONFIGURE n, f, pad` (44_driver_ops.md R500): both banks out of reset before any effect, then the
pad before the function. -/
def pinReconfigure (n : Nat) (f pad : Word) : List Stmt :=
  [.requirePinBanks, wrConst (addrPad n) pad, wrConst (addrGpioCtrl n) f]

/-- The pin contract of this core (44_driver_ops.md R501). -/
def pinContract : List Stmt :=
  pinReconfigure Config.sdaPin 3 0x5A ++ pinReconfigure Config.sclPin 3 0x5A

/-! ### Construction (44_driver_ops.md R510) -/

/-- The accesses of I2C_INIT, for a divider and a mode. -/
def i2cInitBody (d : Divider) (ss : Bool) : List Stmt :=
  resetCycle 3 ++
  [ wrConst addrIcEnable 0,
    wrConst (addrHcnt ss) (BitVec.ofNat 32 d.hcnt),
    wrConst (addrLcnt ss) (BitVec.ofNat 32 d.lcnt),
    wrConst addrIcFsSpklen (BitVec.ofNat 32 d.spklen),
    wrConst addrIcSdaHold (BitVec.ofNat 32 d.hold),
    wrConst addrIcCon (if ss then 0x163 else 0x165),
    wrConst addrIcTxTl 0,
    wrConst addrIcRxTl 0,
    wrConst addrIcIntrMask 0,
    wrConst addrIcEnable 1 ]

/-- `I2C_INIT F, f`: its preconditions in order, then its accesses. -/
def i2cInit (F f : Nat) : List Stmt :=
  .requirePins ::
  (if f = 0 ∨ 400000 < f then [.raiseRefuse .busFreqOutOfRange]
   else if (divider F f).valid then i2cInitBody (divider F f) (usesStandardMode f)
   else [.raiseRefuse .dividerOutOfRange])

/-! ### The write operation (44_driver_ops.md R520, R525) -/

/-- The result of I2C_WRITE (44_driver_ops.md R520, R525). -/
inductive WriteResult where
  | ok
  | nakAddress
  | nakData
  | arbitrationLost
  | busError
  | timeout
deriving DecidableEq, Repr, Inhabited

/-- The word RETURN gives for a result. -/
def resultCode : WriteResult → Word
  | .ok => 0
  | .nakAddress => 1
  | .nakData => 2
  | .arbitrationLost => 3
  | .busError => 4
  | .timeout => 5

/-- `kind(ab)`, tested in the order of 44_driver_ops.md R525. -/
def errorKind (ab : Word) : WriteResult :=
  if ab.getLsbD 0 then .nakAddress
  else if ab.getLsbD 3 then .nakData
  else if ab.getLsbD 12 then .arbitrationLost
  else .busError

/-- The temporaries of I2C_WRITE: ab, i, w, k, t. -/
def tAb : Nat := 0
def tI : Nat := 1
def tW : Nat := 2
def tK : Nat := 3
def tT : Nat := 4

/-- `(t AND m) != 0`. -/
def testBits (t : Nat) (m : Word) : Cond := ⟨.ne, .bin .and (.temp t) (.const m), .const 0⟩

/-- `LET t = t + 1`. -/
def increment (t : Nat) : Stmt := .letTemp t (.bin .add (.temp t) (.const 1))

/-- `IF k = WRITE_POLL_LIMIT`, which never holds where the limit is unbounded or no 32-bit number. -/
def limitReached (limit : Option Nat) : Cond :=
  match limit with
  | some l => if l < 2 ^ 32 then ⟨.eq, .temp tK, .const (BitVec.ofNat 32 l)⟩
              else ⟨.ne, .const 0, .const 0⟩
  | none => ⟨.ne, .const 0, .const 0⟩

/-- How many statements `i2cWriteBody` has. -/
def i2cWriteLength : Nat := 39

/-- The expansion of I2C_WRITE from its first access (44_driver_ops.md R520), placed at statement `b`; `done r`
is the statement that stands for RETURN of the result `r`: RETURN itself where the operation is the program, a
jump where it stands in a longer one (log entry 30). DESIGN CHOICE (log entry 28): R520 bounds n
nowhere and temporaries have 32 bits (30_encoding.md R190), so `n` is the length modulo 2^32; the two
differ only for a list of 2^32 bytes or more. -/
def i2cWriteBody (b : Nat) (limit : Option Nat) (done : WriteResult → Stmt) (addr : Word)
    (bytes : List Byte) : List Stmt :=
  let n : Word := BitVec.ofNat 32 bytes.length
  [ wrConst addrIcEnable 0,
    wrConst addrIcTar addr,
    wrConst addrIcEnable 1,
    .letTemp tAb (.const 0),
    .letTemp tI (.const 0),
    /- 5, next -/ .letTemp tW (.byteAt bytes (.temp tI)),
    .ifGoto ⟨.eq, .temp tI, .const (n - 1)⟩ (b + 8),
    .goto (b + 9),
    /- 8, last -/ .letTemp tW (.bin .or (.temp tW) (.const 0x200)),
    /- 9, send -/ .wr 4 addrIcDataCmd (.temp tW),
    .letTemp tK (.const 0),
    /- 11, txp -/ .rd 4 addrIcRawIntrStat (some tT),
    increment tK,
    .ifGoto (testBits tT 0x10) (b + 16),
    .ifGoto (limitReached limit) (b + 38),
    .goto (b + 11),
    /- 16, sent -/ .rd 4 addrIcTxAbrtSource (some tAb),
    .ifGoto (testBits tAb 0x1FFFF) (b + 21),
    increment tI,
    .ifGoto ⟨.lt, .temp tI, .const n⟩ (b + 5),
    .goto (b + 22),
    /- 21, abrt -/ .rd 4 addrIcClrTxAbrt none,
    /- 22, fin -/ .letTemp tK (.const 0),
    /- 23, spp -/ .rd 4 addrIcRawIntrStat (some tT),
    increment tK,
    .ifGoto (testBits tT 0x200) (b + 28),
    .ifGoto (limitReached limit) (b + 38),
    .goto (b + 23),
    /- 28, spd -/ .rd 4 addrIcClrStopDet none,
    .ifGoto (testBits tAb 0x1FFFF) (b + 31),
    done .ok,
    /- 31, err: kind(ab) -/ .ifGoto (testBits tAb 0x1) (b + 35),
    .ifGoto (testBits tAb 0x8) (b + 36),
    .ifGoto (testBits tAb 0x1000) (b + 37),
    done .busError,
    done .nakAddress,
    done .nakData,
    done .arbitrationLost,
    /- 38, tmo -/ done .timeout ]

/-- The failed precondition of I2C_WRITE, if one fails (44_driver_ops.md R520). -/
def i2cWriteRefusal (addr : Word) (bytes : List Byte) : Option Reason :=
  if bytes = [] then some .emptyWrite
  else if 0x7F < addr.toNat ∨ addr.toNat ≤ 0x07 ∨ 0x78 ≤ addr.toNat then some .reservedAddress
  else none

/-- `I2C_WRITE addr, bytes` as a program of its own: RETURN gives `resultCode`. -/
def i2cWrite (limit : Option Nat) (addr : Word) (bytes : List Byte) : List Stmt :=
  match i2cWriteRefusal addr bytes with
  | some r => [.raiseRefuse r]
  | none => i2cWriteBody 0 limit (fun r => .ret (.const (resultCode r))) addr bytes

/-! ### Bring-up (44_driver_ops.md R540) -/

/-- The writes of BRINGUP placed from statement `b`: each goes on to the next on Ok and to `panic`
otherwise. -/
def bringupWrites (b panic : Nat) (limit : Option Nat) (addr : Word) : List (List Byte) → List Stmt
  | [] => []
  | w :: ws =>
    match i2cWriteRefusal addr w with
    | some r => [.raiseRefuse r]
    | none =>
      i2cWriteBody b limit
        (fun r => if r = .ok then .goto (b + i2cWriteLength) else .goto panic) addr w ++
      bringupWrites (b + i2cWriteLength) panic limit addr ws

/-- One byte list of DISPLAY_WRITES (00_scope.md R9, 44_driver_ops.md R540): its control byte, which is 0x40 for
framebuffer data and 0x00 for commands, and the bytes after it. No other byte list can be built. -/
structure DisplayWrite where
  framebuffer : Bool
  payload : List Byte
deriving DecidableEq, Repr, Inhabited

/-- The bytes of a display write: "each list starts with 0x00 (commands) or 0x40 (framebuffer data)"
(00_scope.md R9). -/
def DisplayWrite.bytes (w : DisplayWrite) : List Byte :=
  (if w.framebuffer then 0x40#8 else 0x00#8) :: w.payload

/-- BRINGUP for a clock, a target, a poll limit and DISPLAY_WRITES (44_driver_ops.md R540): HALT ends it, at
`panic` after an error. -/
def bringup (F : Nat) (addr : Word) (limit : Option Nat) (displayWrites : List DisplayWrite) : List Stmt :=
  let front := pinbankInit ++ pinContract ++ i2cInit F Config.fBusTarget
  let writes := displayWrites.map DisplayWrite.bytes
  let panic := front.length + (bringupWrites front.length 0 limit addr writes).length + 1
  front ++ bringupWrites front.length panic limit addr writes ++ [.halt, .halt]

end Sys2Proof.Machine
end

