-- ==== Sys2Proof/Safety.lean ====
section
/-! DEFINITION. What claims are stated in: the observations of a run and its premises (MARKS empty,
fairness, the environment premises of 43_i2c_fsm.md R441 and R442 and of 70_reset_and_hazards.md R735), the
state invariant, the frame grammar of the bus trace (30_encoding.md R174), and the shapes of a claim about one instruction. -/

namespace Sys2Proof.Safety

open Sys2Proof.Machine

/-! ### Runs -/

/-- A run: an infinite sequence of states, each the next of the one before. -/
def IsRun (r : Nat → State) : Prop := ∀ k, step (r k) = .next (r (k + 1))

/-- The premise "both empty" of a claim about a run (10_state.md R74). -/
def marksEmpty (s : State) : Bool := s.marks.refused.isEmpty && s.marks.faulted.isEmpty

/-- A CTRL step is enabled (43_i2c_fsm.md R422). -/
def ctrlEnabled (s : State) : Bool := popEnabled s || xferReady s || abortEnabled s

/-- Weak fairness of CTRL and RSTAGENT (00_scope.md R8): a step that stays enabled is taken. -/
def WeaklyFair (r : Nat → State) : Prop :=
  (∀ k, (∀ j, k ≤ j → ctrlEnabled (r j) = true) → ∃ j, k ≤ j ∧ nextTurn (r j) = .ctrl) ∧
  (∀ (i : Fin 25) k, (∀ j, k ≤ j → releaseEnabled i (r j) = true) →
    ∃ j, k ≤ j ∧ nextTurn (r j) = .rst i)

/-- A CTRL step waits for the environment: S_XFER is not enabled, and would be were SCL and SDA released and
another master's transfer over (43_i2c_fsm.md R430, R441). S_POP and S_ABORT never wait for it. -/
def waitsForEnv (s : State) : Bool :=
  !xferReady s &&
    xferReady { s with wires := { envSdaLow := false, envSclLow := false, otherBusy := false } }

/-- BUSENV releases SCL and SDA and ends another master's transfer within finitely many steps, whenever a CTRL
step waits for that: condition (1) of 43_i2c_fsm.md R441. -/
def EnvReleases (r : Nat → State) : Prop :=
  ∀ k, waitsForEnv (r k) = true → ∃ j, k ≤ j ∧ waitsForEnv (r j) = false

/-- A target stretches the clock: it holds SCL low in HIGH (70_reset_and_hazards.md R730, R735). -/
def stretched (s : State) : Bool := s.ctrl.phase == .high && s.wires.envSclLow

/-- The environment ends what the clock waits for: `held` is over after finitely many steps, and where clock
cycles come again and again one of them finds it over (DEDUCED, log entry 22). -/
def EnvEnds (held : State → Bool) (r : Nat → State) : Prop :=
  ∀ k, held (r k) = true →
    (∃ j, k ≤ j ∧ held (r j) = false) ∧
    ((∀ j, k ≤ j → ∃ i, j ≤ i ∧ nextTurn (r i) = .clk) →
      ∃ j, k ≤ j ∧ nextTurn (r j) = .clk ∧ held (r j) = false)

/-- A stretch ends, whether or not a CTRL step waits for it (70_reset_and_hazards.md R735). -/
def StretchesEnd (r : Nat → State) : Prop := EnvEnds stretched r

/-- The environment keeps a queued START from beginning: it holds a wire low, or another master holds the bus
(70_reset_and_hazards.md R731). -/
def startBlocked (s : State) : Bool :=
  startDue s.ctrl && (s.wires.envSclLow || s.wires.envSdaLow || anotherHolds s)

/-- A queued START begins in the end: condition (1) of 43_i2c_fsm.md R441, read at the level of cycles. -/
def StartsBegin (r : Nat → State) : Prop := EnvEnds startBlocked r

/-- The environment holds neither SCL nor SDA. -/
def linesFree (s : State) : Bool := !s.wires.envSclLow && !s.wires.envSdaLow

/-- An S_XFER, of the command in hand, that stays enabled whenever SCL and SDA are free, and they are free
again and again, occurs: condition (2) of 43_i2c_fsm.md R441. -/
def TransfersOccur (r : Nat → State) : Prop :=
  ∀ k c, (r k).ctrl.shift = some c →
    (∀ j, k ≤ j → ∃ i, j ≤ i ∧ linesFree (r i) = true) →
    (∀ j, k ≤ j → linesFree (r j) = true → xferEnabled c (r j) = true) →
    ∃ j, k ≤ j ∧ nextTurn (r j) = .ctrl ∧ xferEnabled c (r j) = true

/-- What a run assumes of the environment, by the parameter ENV_MAY_HANG (43_i2c_fsm.md R441,
70_reset_and_hazards.md R735). Condition (3) of R441 holds of every step of the model: an answer is given inside the step that asks. -/
def EnvLive (envMayHang : Bool) (r : Nat → State) : Prop :=
  envMayHang = false → EnvReleases r ∧ TransfersOccur r ∧ StretchesEnd r ∧ StartsBegin r

/-! ### Environment premises, over a trace (43_i2c_fsm.md R442) -/

/-- The events that reached the bus (43_i2c_fsm.md R446). -/
def wiredEvents (tr : List TraceEntry) : List BusEvent :=
  (tr.filter (fun e => e.wired)).map (fun e => e.event)

/-- The address of the transfer after an event: that of its address byte, none between transfers. -/
def transferAddress (cur : Option (BitVec 7)) : BusEvent → Option (BitVec 7)
  | .addr a _ => some (a.extractLsb' 1 7)
  | .start => none
  | .stop => none
  | _ => cur

/-- The TX bytes of the run up to and with an event. -/
def txCount (n : Nat) : BusEvent → Nat
  | .tx _ _ => n + 1
  | _ => n

/-- A wired event that the premise allows in a transfer addressed to `cur` after `n` TX bytes of the run: no
E_START, no LOST, an address answered ACK exactly where it is T's, a TX byte answered NACK where it is the
k-th of the run and otherwise ACK where its transfer is addressed to T. -/
def targetAllows (T : BitVec 7) (k : Nat) (cur : Option (BitVec 7)) (n : Nat) : BusEvent → Bool
  | .envStart => false
  | .addr a ans => ans == (if a.extractLsb' 1 7 = T then .ack else .nack)
  | .tx _ ans => if n + 1 = k then ans == .nack else if cur = some T then ans == .ack else ans != .lost
  | _ => true

/-- A trace read under the premise. It constrains wired events only; the transfer's address and the count of
TX bytes follow every event (log entry 22). -/
def targetRun (T : BitVec 7) (k : Nat) : Option (BitVec 7) → Nat → List TraceEntry → Bool
  | _, _, [] => true
  | cur, n, e :: rest =>
    (!e.wired || targetAllows T k cur n e.event) &&
      targetRun T k (transferAddress cur e.event) (txCount n e.event) rest

/-- `env_target(T)` (43_i2c_fsm.md R442). TX bytes are counted from 1, so none is the 0-th. -/
def envTarget (T : BitVec 7) (tr : List TraceEntry) : Bool := targetRun T 0 none 0 tr

/-- `env_nack_data(T, k)` (43_i2c_fsm.md R442). -/
def envNackData (T : BitVec 7) (k : Nat) (tr : List TraceEntry) : Bool := targetRun T k none 0 tr

/-- `env_absent` (43_i2c_fsm.md R442). -/
def envAbsent (tr : List TraceEntry) : Bool :=
  (wiredEvents tr).all (fun e =>
    match e with
    | .envStart => false
    | .addr _ ans => ans == .nack
    | _ => true)

/-! ### The frame grammar (30_encoding.md R174) -/

/-- Where a reader of the trace stands in the grammar: between transfers; after START or RESTART, before
the address; after an acknowledged address, where the phase may have TX bytes, RX bytes or none, whatever
the direction bit; after a TX byte; after MACK; after an RX byte, before its ACK slot; after MNACK; after
a NACK answer, before STOP. The inner STOP of `STOP START`, which the grammar cannot tell from the end of
the transfer, leads between transfers. -/
inductive FramePos where
  | free
  | addressDue
  | addressed
  | writing
  | reading
  | ackDue
  | readEnded
  | stopDue
deriving DecidableEq, Repr, Inhabited

/-- One event read by the grammar, none where it does not allow the event (30_encoding.md R174). -/
def frameNext (p : FramePos) (e : BusEvent) : Option FramePos :=
  match p, e with
  | .free, .start => some .addressDue
  | .free, .envStart => some .free
  | .free, .envStop => some .free
  | .addressDue, .addr _ .ack => some .addressed
  | .addressDue, .addr _ .nack => some .stopDue
  | .addressDue, .addr _ .lost => some .free
  | .addressed, .tx _ .ack => some .writing
  | .addressed, .tx _ .nack => some .stopDue
  | .addressed, .tx _ .lost => some .free
  | .addressed, .rx _ => some .ackDue
  | .addressed, .restart => some .addressDue
  | .addressed, .stop => some .free
  | .writing, .tx _ .ack => some .writing
  | .writing, .tx _ .nack => some .stopDue
  | .writing, .tx _ .lost => some .free
  | .writing, .restart => some .addressDue
  | .writing, .stop => some .free
  | .reading, .rx _ => some .ackDue
  | .ackDue, .mack => some .reading
  | .ackDue, .mnack => some .readEnded
  | .readEnded, .restart => some .addressDue
  | .readEnded, .stop => some .free
  | .stopDue, .stop => some .free
  | _, _ => none

/-- A trace read by the grammar from a position. -/
def frameRun (p : FramePos) : List BusEvent → Option FramePos
  | [] => some p
  | e :: rest => (frameNext p e).bind (fun q => frameRun q rest)

/-- The position a whole trace leaves, none where it is no sequence of transfers. -/
def framePos (s : State) : Option FramePos := frameRun .free (s.trace.map (fun e => e.event))

/-- The controller's state agrees with the position its trace leaves: between transfers where it does not
own the bus; in a write phase, or after a byte whose ACK slot is pending, where it does. -/
def frameOk (s : State) : Bool :=
  framePos s == some
    (if s.ctrl.owned then
      (match s.ctrl.dir with
       | .write => .writing
       | .read => .ackDue)
     else .free) &&
  (s.ctrl.rxAckPending == (s.ctrl.owned && s.ctrl.dir == .read))

/-! ### The state invariant -/

/-- The configuration registers hold legal values: SPEED is 1 or 2 (10_state.md R38), the counts, the spike
length and the thresholds lie in their ranges (41_i2c_config.md R305, R307, R310). -/
def configLegal (r : I2cRegs) : Bool :=
  (r.con.speed == 1#2 || r.con.speed == 2#2) &&
    decide (Config.hcntMin ≤ r.ssHcnt) && decide (Config.hcntMin ≤ r.fsHcnt) &&
    decide (Config.lcntMin ≤ r.ssLcnt) && decide (Config.lcntMin ≤ r.fsLcnt) &&
    decide (Config.spklenMin ≤ r.fsSpklen) && decide (r.rxTl ≤ 15#8) && decide (r.txTl ≤ 15#8)

/-- The FIFOs keep to their depths (10_state.md R60, R61). -/
def fifosBounded (c : Ctrl) : Bool :=
  decide (c.txq.length ≤ Config.txDepth) && decide (c.rxq.length ≤ Config.rxDepth)

/-- ENABLE equals `ic_en` (41_i2c_config.md R324); while disabled the FIFOs are empty, the bus is not
owned, nothing is in hand, no abort is pending (R320, R321). -/
def enableAgrees (s : State) : Bool :=
  s.i2c.enable.enable == s.ctrl.icEn &&
    (s.ctrl.icEn || (s.ctrl.txq.isEmpty && s.ctrl.rxq.isEmpty && !s.ctrl.owned &&
      s.ctrl.shift.isNone && !s.i2c.enable.abort))

/-- While the flush hold lasts TXQ stays empty (43_i2c_fsm.md R452), with nothing in hand and the bus not
owned (60_exceptions.md R606). -/
def flushAgrees (s : State) : Bool :=
  !s.ctrl.flushHold || (s.ctrl.txq.isEmpty && s.ctrl.shift.isNone && !s.ctrl.owned)

/-- One owner of the bus (43_i2c_fsm.md R429, R440), an ACK slot pending only while it is held, and outputs
only as 43_i2c_fsm.md R445 gives them. -/
def busAgrees (s : State) : Bool :=
  !(s.ctrl.owned && s.wires.otherBusy) && (s.ctrl.owned || !s.ctrl.rxAckPending) &&
    s.ctrl.sclOe == (s.ctrl.icEn && s.ctrl.owned) && (!s.ctrl.sdaOe || (s.ctrl.icEn && s.ctrl.owned))

/-- The slave bits of RAW and the causes out of scope stay 0 (42_i2c_data_status.md R380, 60_exceptions.md
R602). -/
def scopeOnly (s : State) : Bool :=
  !s.ctrl.raw.rdReq && !s.ctrl.raw.rxDone && !s.ctrl.raw.genCall && !s.ctrl.raw.restartDet &&
    s.i2c.abrtSource &&& ~~~0x11009#17 == 0#17

/-- A block whose RESET_DONE bit is 0 is at its reset values (40_pin_mux.md R204), and a RESET_DONE bit is
0 while its RESET bit is 1. -/
def resetsAgree (s : State) : Bool :=
  s.resets.reset &&& s.resets.done == 0#25 &&
    (s.resets.done.getLsbD i2cBit || (s.i2c == I2cRegs.reset && s.ctrl == Ctrl.reset)) &&
    (s.resets.done.getLsbD ioBit || s.io == IoBank.reset) &&
    (s.resets.done.getLsbD padsBit || s.pads == PadsBank.reset)

/-- Every pin's FUNCSEL is one R231 admits, and no two pins select one I2C0 signal (40_pin_mux.md R231). -/
def pinsLegal (s : State) : Bool :=
  (List.range Config.nGpio).all (fun n =>
    funcselLegal (pinCtrlOf s n).funcsel n &&
      !((pinCtrlOf s n).funcsel == 3#5 && isI2c0Pin n && otherPinSelects s n))

/-- The invariant every step keeps. -/
def inv (s : State) : Bool :=
  configLegal s.i2c && fifosBounded s.ctrl && enableAgrees s && flushAgrees s && busAgrees s &&
    scopeOnly s && resetsAgree s && pinsLegal s && tempsWf s.host.temps

/-! ### Claims about one instruction -/

/-- The state after a read that returned `v` and drew `k` moments of free values. -/
def answered (s : State) (v : Word) (k : Nat) : State :=
  { s with host := { s.host with readData := some v }, draws := s.draws + k }

/-- The read completes: it returns a word of which `P` holds, whose bits outside `mask` are the free value of
this moment (20_memory.md R102), and changes nothing else. -/
def Reads (i : Instr) (s : State) (mask : Word) (P : Word → Prop) : Prop :=
  ∃ v, exec i s = .next (answered s v 1) ∧
    v &&& ~~~mask = Config.freeWord s.draws &&& ~~~mask ∧ P v

/-- The read completes and returns a word whose bits under `mask` are `value`. -/
def ReturnsAs (i : Instr) (s : State) (mask value : Word) : Prop :=
  ∃ v t, exec i s = .next t ∧ t.host.readData = some v ∧ v &&& mask = value

/-- One bit of the alias operation of 20_memory.md R106. -/
def aliasBit (op : AliasOp) (old v : Bool) : Bool :=
  match op with
  | .normal => v
  | .xorBits => old != v
  | .setBits => old || v
  | .clrBits => old && !v

/-- `new` is the field that a write of `v` through `op` gives a field whose stored value is `old` and whose
lowest bit is bit `lo` of the register (20_memory.md R106, 30_encoding.md R154). -/
def FieldWritten (op : AliasOp) (old new : BitVec w) (v : Word) (lo : Nat) : Prop :=
  ∀ k, k < w → new.getLsbD k = aliasBit op (old.getLsbD k) (v.getLsbD (lo + k))

/-- `w` is the word that a write of `v` through `op` performs where the stored word is `old`
(20_memory.md R106). -/
def WordWritten (op : AliasOp) (old v w : Word) : Prop := FieldWritten op old w v 0

/-- The access to byte address `a` matches a row of the opcode table (30_encoding.md R152): a write row where
`w` holds, a read row where it does not. -/
def AccessDecodes (w : Bool) (a v : Word) : Prop :=
  ∃ i, decode (.acc 4 (BitVec.ofBool w ++ a) v) = .ok i

/-- Address `a` lies in an aliased block at an alias that is not 0 (20_memory.md R101). -/
def AtAlias (a : Word) : Prop :=
  (a.extractLsb' 14 18 = 0x10003#18 ∨ a.extractLsb' 14 18 = 0x10005#18 ∨
    a.extractLsb' 14 18 = 0x10007#18 ∨ a.extractLsb' 14 18 = 0x10011#18) ∧ a.extractLsb' 12 2 ≠ 0#2

/-- "The same address at alias 0" (30_encoding.md R153). -/
def atAliasZero (a : Word) : Word := a &&& 0xFFFFCFFF#32

/-! ### Claims about bus transfers -/

/-- The cycle-level segments of events, one after another, by the counts now programmed
(70_reset_and_hazards.md R731, R732). -/
def segmentsOf (s : State) (evs : List BusEvent) : List Segment :=
  evs.flatMap (eventSegments (hcntEff s.i2c).toNat (lcntEff s.i2c).toNat)

/-- Events that reached the bus, as entries of TRACE. -/
def onBus (evs : List BusEvent) : List TraceEntry := evs.map (fun e => ⟨e, true⟩)

/-- The address byte `{IC_TAR[6:0], rw}` (30_encoding.md R170). -/
def addressByte (s : State) (rw : BitVec 1) : Byte := s.i2c.tar.addr.extractLsb' 0 7 ++ rw

/-- The command is in hand and may be performed now: the guard of 43_i2c_fsm.md R429 that does not depend
on who holds the bus, in a run that is connected to it (40_pin_mux.md R245). -/
structure CommandInHand (c : Cmd) (s : State) : Prop where
  enabled : s.ctrl.icEn = true
  released : s.resets.reset.getLsbD 3 = false
  noAbort : s.i2c.enable.abort = false
  inHand : s.ctrl.shift = some c
  sclFree : s.wires.envSclLow = false
  roomOrLoss : ¬ (c.cmd = true ∧ s.i2c.con.rxFifoFullHldCtrl = true ∧ s.ctrl.rxq.length = 16)
  connected : wired s = true

/-- The bus is free for a START (43_i2c_fsm.md R430), and no ACK slot is pending. -/
structure BusFree (s : State) : Prop where
  notOwned : s.ctrl.owned = false
  noPending : s.ctrl.rxAckPending = false
  noOther : s.wires.otherBusy = false
  sdaFree : s.wires.envSdaLow = false

/-- The state after an abort with cause bit `k` (60_exceptions.md R606) whose step emitted `evs` with the bus
connected: a START or RESTART among them has set START_DET, a STOP STOP_DET. Where `stop` holds the
controller has ended the transfer; where it does not, the winner holds the bus. -/
def afterAbort (k : Nat) (evs : List BusEvent) (stop : Bool) (d : Dir) (rest : List Answer)
    (seg : List Segment) (s : State) : State :=
  { s with
    i2c := { s.i2c with
      abrtSource := s.i2c.abrtSource ||| BitVec.twoPow 17 k
      txFlushCnt := BitVec.ofNat 9 s.ctrl.txq.length }
    ctrl := { s.ctrl with
      txq := [], shift := none, owned := false, dir := d, rxAckPending := false, flushHold := true
      raw := { s.ctrl.raw with
        txAbrt := true
        startDet := evs.any (fun e => e == .start || e == .restart) || s.ctrl.raw.startDet
        stopDet := evs.any (fun e => e == .stop) || s.ctrl.raw.stopDet }
      segments := seg }
    wires := { s.wires with otherBusy := !stop || s.wires.otherBusy }
    trace := s.trace ++ onBus evs
    script := { s.script with answers := rest } }

end Sys2Proof.Safety
end

