-- ==== Sys2Proof/Certificates/Slice0/Obligations.lean ====
section
/-! DEFINITION. The statements for the provers, family by family: encoding, the step, the invariants, I2C0
registers, RESETS, pins, SIO, the controller, the environment, the HOST, timing. Each docstring names the rule it
follows. -/

section
open Sys2Proof Sys2Proof.Machine Sys2Proof.Safety

/-! ### Encoding -/

/-- Decode and encode agree on every instruction, every operand at every value the encoding admits
(30_encoding.md R152, R155 to R162). -/
def Obligations.DecodeEncodeRoundTrip : Prop :=
  ∀ i : Instr, i.wf = true → decode (encode i) = .ok i

/-- Whatever decodes is an instruction the encoding admits (30_encoding.md R162). -/
def Obligations.DecodedInstructionsAreWellFormed : Prop :=
  ∀ (c : Code) (i : Instr), decode c = .ok i → i.wf = true

/-- "No two ACC rows both match and meet their constraints" (30_encoding.md R152). -/
def Obligations.AccRowsNeverOverlap : Prop :=
  accRows.Pairwise fun r q => ∀ acc : BitVec 33, ¬ (r.hits acc = true ∧ q.hits acc = true)

/-- An access decodes only if it is 32 bits wide and word aligned; any other is refused WIDTH_OR_ALIGN, before
anything else is looked at (20_memory.md R104). -/
def Obligations.WrongWidthOrAlignmentRefused : Prop :=
  ∀ (n : Nat) (acc : BitVec 33) (v : Word),
    (∀ i, decode (.acc n acc v) = .ok i → n = 4 ∧ acc.extractLsb' 0 2 = 0#2) ∧
    ((n ≠ 4 ∨ acc.extractLsb' 0 2 ≠ 0#2) →
      decode (.acc n acc v) = .error .widthOrAlign)

/-- The reason of an aligned access that matches no row (30_encoding.md R153), in terms of what the same
address would decode to. That SIO has no aliases for this purpose, and that a write at any alias of a register
with no write row is WRITE_RO (20_memory.md R101, R103), is the model's reading (log entry 11). -/
def Obligations.RefusalReasons : Prop :=
  ∀ a v : Word, a.extractLsb' 0 2 = 0#2 →
    (¬ AccessDecodes false a v →
      (AtAlias a ∧ AccessDecodes false (atAliasZero a) v →
        decode (.acc 4 (0#1 ++ a) v) = .error .aliasRead) ∧
      (¬ (AtAlias a ∧ AccessDecodes false (atAliasZero a) v) →
        decode (.acc 4 (0#1 ++ a) v) = .error .unmapped)) ∧
    (¬ AccessDecodes true a v →
      (AtAlias a ∧ AccessDecodes true (atAliasZero a) v →
        decode (.acc 4 (1#1 ++ a) v) = .error .aliasSideEffect) ∧
      (¬ (AtAlias a ∧ AccessDecodes true (atAliasZero a) v) →
        (AccessDecodes false a v ∨ AtAlias a ∧ AccessDecodes false (atAliasZero a) v →
          decode (.acc 4 (1#1 ++ a) v) = .error .writeRo) ∧
        (¬ (AccessDecodes false a v ∨ AtAlias a ∧ AccessDecodes false (atAliasZero a) v) →
          decode (.acc 4 (1#1 ++ a) v) = .error .unmapped)))

/-- Every word is a command word: bits 10:8 give its class, bits 7:0 its byte, and bits 31:11 are ignored
(30_encoding.md R160, R161, and the CMDW rows of spec/opcode_table.json). -/
def Obligations.CommandWordClasses : Prop :=
  ∀ w : Word,
    (w.extractLsb' 8 3 = 0#3 → decode (.cmdw w) = .ok (.cmdW (w.extractLsb' 0 8))) ∧
    (w.extractLsb' 8 3 = 1#3 → decode (.cmdw w) = .ok (.cmdR (w.extractLsb' 0 8))) ∧
    (w.extractLsb' 8 3 = 2#3 → decode (.cmdw w) = .ok (.cmdWStop (w.extractLsb' 0 8))) ∧
    (w.extractLsb' 8 3 = 3#3 → decode (.cmdw w) = .ok (.cmdRStop (w.extractLsb' 0 8))) ∧
    (w.extractLsb' 8 3 = 4#3 → decode (.cmdw w) = .ok (.cmdWRestart (w.extractLsb' 0 8))) ∧
    (w.extractLsb' 8 3 = 5#3 → decode (.cmdw w) = .ok (.cmdRRestart (w.extractLsb' 0 8))) ∧
    (w.extractLsb' 8 3 = 6#3 → decode (.cmdw w) = .ok (.cmdWRestartStop (w.extractLsb' 0 8))) ∧
    (w.extractLsb' 8 3 = 7#3 → decode (.cmdw w) = .ok (.cmdRRestartStop (w.extractLsb' 0 8)))

/-- Words written out from the spec's encodings decode to what they stand for (sanity). -/
def Obligations.SampleWordsDecode : Prop :=
  decode (.acc 4 0x040044000#33 0) = .ok .rdIcCon ∧
  decode (.acc 4 0x140044010#33 0x2AE) = .ok (.wrIcDataCmd 0x2AE) ∧
  decode (.acc 4 0x14000E000#33 8) = .ok (.wrResetsReset .setBits 8) ∧
  decode (.acc 4 0x140014024#33 3) = .ok (.wrGpioCtrl 4 .normal 3) ∧
  decode (.acc 4 0x14001C014#33 0x5A) = .ok (.wrPadGpio 4 .normal 0x5A) ∧
  decode (.acc 4 0x1D0000018#33 0x10) = .ok (.wrSioGpioOutClr 0x10) ∧
  decode (.cmdw 0x2AE) = .ok (.cmdWStop 0xAE)

/-! ### The step -/

/-- A step that fetches a code which decodes runs that instruction's meaning, then retires the turn. The HOST
fetches the access of its statement (30_encoding.md R190, R151), the controller the command in hand where it
may perform it (43_i2c_fsm.md R429). A HOST access is retired by its statement: RD puts the value in its
temporary, a POLL stays until the value read ends it; every step ends in `settle`. That an access which
returned no value leaves its temporary as it is, is the model's choice (log entry 7).

The last clause says what `settle` does: SCL is held low exactly while the controller is enabled and owns the
bus, SDA is released unless it is, at a free value while it is (43_i2c_fsm.md R445), a contention of the SDA
node (pin 4) and one of the SCL node (pin 5) are marked (40_pin_mux.md R251, 60_exceptions.md R604; log
entry 12), and nothing else changes but the moment of the next free value (log entry 4). -/
def Obligations.StepRunsDecodedInstruction : Prop :=
  (∀ (s : State) (c : Code) (i : Instr),
    fetch (nextTurn s) (beginTurn s) = some c → decode c = .ok i →
    step s =
      match exec i (beginTurn s) with
      | .next t => .next (finish (nextTurn s) t)
      | .fault f => .fault f
      | .refused r => .refused r) ∧
  ∀ s : State,
    (∀ n a t, currentStmt s.host = some (.rd n a t) →
      fetch .host s = some (.acc n (0#1 ++ a) 0) ∧
      finish .host s = settle { s with host := { s.host with
        pc := s.host.pc + 1
        temps := match t, s.host.readData with
          | some u, some v => tempSet s.host.temps u v
          | _, _ => s.host.temps } }) ∧
    (∀ n a e, currentStmt s.host = some (.wr n a e) →
      fetch .host s = some (.acc n (1#1 ++ a) (evalExpr s.host.temps e)) ∧
      finish .host s = settle { s with host := { s.host with pc := s.host.pc + 1 } }) ∧
    (∀ a m x, currentStmt s.host = some (.poll a m x) →
      fetch .host s = some (.acc 4 (0#1 ++ a) 0) ∧
      ∀ v, s.host.readData = some v →
        finish .host s = settle { s with host := { s.host with
          pc := if v &&& m = x then s.host.pc + 1 else s.host.pc } }) ∧
    (∀ a m x, currentStmt s.host = some (.pollne a m x) →
      fetch .host s = some (.acc 4 (0#1 ++ a) 0) ∧
      ∀ v, s.host.readData = some v →
        finish .host s = settle { s with host := { s.host with
          pc := if v &&& m ≠ x then s.host.pc + 1 else s.host.pc } }) ∧
    (∀ c, s.ctrl.shift = some c → xferEnabled c s = true →
      (∃ w, fetch .ctrl s = some (.cmdw w) ∧ decode (.cmdw w) = .ok (instrOfCmd c)) ∧
      finish .ctrl s = settle s) ∧
    ∃ b : Bool, (b = true → s.ctrl.icEn = true ∧ s.ctrl.owned = true) ∧
      (let o : State := { s with ctrl := { s.ctrl with
         sclOe := s.ctrl.icEn && s.ctrl.owned, sdaOe := b } }
       settle s = { o with
         marks := { s.marks with faulted := s.marks.faulted ++
           (if contends o s.draws 4 = true then [.contention] else []) ++
           (if contends o s.draws 5 = true then [.contention] else []) }
         draws := s.draws + 1 })

/-- An access that decodes to no register marks the run with its reason and changes no register, no FIFO, no
wire and no trace (60_exceptions.md R603, 10_state.md R74); the run goes on (log entry 1). The controller's
outputs are settled as after every step: SCL held low exactly while it is enabled and owns the bus, SDA,
which is then unsettled, drawn again (43_i2c_fsm.md R445). -/
def Obligations.UndecodedAccessOnlyMarks : Prop :=
  ∀ (s : State) (c : Code) (r : Reason),
    fetch (nextTurn s) (beginTurn s) = some c → decode c = .error r →
    ∃ t, step s = .next t ∧
      t.marks.refused = s.marks.refused ++ [r] ∧
      t.i2c = s.i2c ∧
      t.ctrl = { s.ctrl with sdaOe := t.ctrl.sdaOe, sclOe := s.ctrl.icEn && s.ctrl.owned } ∧
      (t.ctrl.sdaOe = true → s.ctrl.icEn = true ∧ s.ctrl.owned = true) ∧
      t.resets = s.resets ∧ t.io = s.io ∧ t.pads = s.pads ∧ t.sio = s.sio ∧ t.wires = s.wires ∧
      t.trace = s.trace

/-! ### Invariants and whole-machine rules -/

/-- Every step keeps the invariant: legal configuration values, bounded FIFOs, ENABLE equal to `ic_en`, the
flush hold, one owner of the bus, the controller's outputs, only causes in scope, held blocks at their reset
values, legal pin functions, temporaries in canonical form. The last clause is the model's own: the canonical
form of the HOST's temporaries is its DESIGN CHOICE (log entry 6). -/
def Obligations.StepKeepsInvariant : Prop :=
  ∀ s t : State, inv s = true → step s = .next t → inv t = true

/-- Every launch state meets the invariant and the frame grammar, whatever LAUNCH_RESETS is, and RESET_DONE is
its complement (70_reset_and_hazards.md R701). -/
def Obligations.LaunchMeetsInvariant : Prop :=
  (∀ x : BitVec 25, inv (State.launch x) = true ∧ frameOk (State.launch x) = true ∧
    (State.launch x).resets.reset = x ∧ (State.launch x).resets.done = ~~~x) ∧
  State.reset = State.launch 0x1FFFFFF#25

/-- The trace stays a sequence of transfers of the frame grammar of 30_encoding.md R174, in agreement with the
controller's state, at every step that does not reset I2C0 while the controller holds the bus: such a
reset ends a transfer with no STOP (40_pin_mux.md R204). -/
def Obligations.StepKeepsFrameGrammar : Prop :=
  ∀ s t : State, frameOk s = true →
    (s.ctrl.owned = true → t.resets.reset.getLsbD 3 = s.resets.reset.getLsbD 3) →
    step s = .next t → frameOk t = true

/-- No step removes or changes an event of TRACE or a mark: they grow at the end (10_state.md R70, R74). -/
def Obligations.TraceAndMarksOnlyGrow : Prop :=
  ∀ s t : State, step s = .next t →
    (∃ evs, t.trace = s.trace ++ evs) ∧
    (∃ rs, t.marks.refused = s.marks.refused ++ rs) ∧
    (∃ fs, t.marks.faulted = s.marks.faulted ++ fs)

/-- An access to I2C0, IO_BANK0 or PADS_BANK0 while its RESET_DONE bit is 0 is refused; RESETS and SIO are always
accessible (20_memory.md R111). -/
def Obligations.HeldBlockRefusesAccess : Prop :=
  ∀ (acc : BitVec 33) (v : Word) (i : Instr) (s : State), decode (.acc 4 acc v) = .ok i →
    (acc.extractLsb' 14 18 = 0x10011#18 → s.resets.done.getLsbD 3 = false →
      exec i s = .next (refuse .blockInReset s)) ∧
    (acc.extractLsb' 14 18 = 0x10005#18 → s.resets.done.getLsbD 5 = false →
      exec i s = .next (refuse .blockInReset s)) ∧
    (acc.extractLsb' 14 18 = 0x10007#18 → s.resets.done.getLsbD 8 = false →
      exec i s = .next (refuse .blockInReset s)) ∧
    (acc.extractLsb' 14 18 = 0x10003#18 ∨ acc.extractLsb' 12 20 = 0xD0000#20 →
      ∃ t, exec i s = .next t ∧ t.marks.refused = s.marks.refused)

/-- While the flush hold lasts no instruction queues a command, and only a read of IC_CLR_TX_ABRT or
IC_CLR_INTR, or a write of RESETS.RESET, ends it (43_i2c_fsm.md R452). -/
def Obligations.FlushHoldEndsOnlyByClear : Prop :=
  ∀ (i : Instr) (s t : State), exec i s = .next t → s.ctrl.flushHold = true → s.ctrl.txq = [] →
    t.ctrl.txq = [] ∧
    (t.ctrl.flushHold = false →
      i = .rdIcClrTxAbrt ∨ i = .rdIcClrIntr ∨ ∃ op v, i = .wrResetsReset op v)

/-- Each latched interrupt bit is set only by the instructions 42_i2c_data_status.md R380 names: RX_UNDER by a
read of IC_DATA_CMD, TX_OVER by a write of it, RX_OVER, TX_ABRT, STOP_DET and START_DET by a command the
controller performs; no instruction sets ACTIVITY or a slave bit. -/
def Obligations.RawBitsSetOnlyByTheirCauses : Prop :=
  ∀ (i : Instr) (s t : State), exec i s = .next t →
    let r := s.ctrl.raw
    let q := t.ctrl.raw
    let isCommand : Prop := ∃ c, i = instrOfCmd c
    (r.rxUnder = false → q.rxUnder = true → i = .rdIcDataCmd) ∧
    (r.txOver = false → q.txOver = true → ∃ v, i = .wrIcDataCmd v) ∧
    (r.rxOver = false → q.rxOver = true → isCommand) ∧
    (r.txAbrt = false → q.txAbrt = true → isCommand) ∧
    (r.stopDet = false → q.stopDet = true → isCommand) ∧
    (r.startDet = false → q.startDet = true → isCommand) ∧
    (r.activity = false → mstActivity s = false → q.activity = false) ∧
    (r.rdReq = false → q.rdReq = false) ∧ (r.rxDone = false → q.rxDone = false) ∧
    (r.genCall = false → q.genCall = false) ∧ (r.restartDet = false → q.restartDet = false)

/-! ### Reset values -/

/-- The value of every register word after its block's reset, as the HOST reads it in the launch state with no
block held, and of the state that no register shows (10_state.md R79); `resetBlock` is what a block's reset
does, and the default launch holds every block. -/
def Obligations.ResetValues : Prop :=
  let s := State.launch 0
  (ReturnsAs .rdIcCon s 0x7FF 0x65 ∧ ReturnsAs .rdIcTar s 0xFFF 0x55 ∧ ReturnsAs .rdIcSar s 0x3FF 0x55 ∧
    ReturnsAs .rdIcSsSclHcnt s 0xFFFF 0x28 ∧ ReturnsAs .rdIcSsSclLcnt s 0xFFFF 0x2F ∧
    ReturnsAs .rdIcFsSclHcnt s 0xFFFF 0x06 ∧ ReturnsAs .rdIcFsSclLcnt s 0xFFFF 0x0D ∧
    ReturnsAs .rdIcIntrStat s 0x1FFF 0 ∧ ReturnsAs .rdIcRawIntrStat s 0x1FFF 0 ∧
    ReturnsAs .rdIcIntrMask s 0x1FFF 0x8FF ∧ ReturnsAs .rdIcRxTl s 0xFF 0 ∧
    ReturnsAs .rdIcTxTl s 0xFF 0 ∧ ReturnsAs .rdIcEnable s 0x7 0 ∧ ReturnsAs .rdIcStatus s 0x7F 0x06 ∧
    ReturnsAs .rdIcTxflr s 0x1F 0 ∧ ReturnsAs .rdIcRxflr s 0x1F 0 ∧
    ReturnsAs .rdIcSdaHold s 0xFFFFFF 0x1 ∧ ReturnsAs .rdIcTxAbrtSource s 0xFF81FFFF 0 ∧
    ReturnsAs .rdIcSlvDataNackOnly s 0x1 0 ∧ ReturnsAs .rdIcDmaCr s 0x3 0 ∧
    ReturnsAs .rdIcDmaTdlr s 0xF 0 ∧ ReturnsAs .rdIcDmaRdlr s 0xF 0 ∧
    ReturnsAs .rdIcSdaSetup s 0xFF 0x64 ∧ ReturnsAs .rdIcAckGeneralCall s 0x1 1 ∧
    ReturnsAs .rdIcEnableStatus s 0x7 0 ∧ ReturnsAs .rdIcFsSpklen s 0xFF 0x7 ∧
    ReturnsAs .rdIcCompParam1 s 0xFFFFFFFF Config.compParam1 ∧
    ReturnsAs .rdIcCompVersion s 0xFFFFFFFF 0x3230312A ∧
    ReturnsAs .rdIcCompType s 0xFFFFFFFF 0x44570140) ∧
  (s.ctrl.txq = [] ∧ s.ctrl.rxq = [] ∧ s.ctrl.icEn = false ∧ s.ctrl.owned = false ∧
    s.ctrl.dir = .write ∧ s.ctrl.shift = none ∧ s.ctrl.rxAckPending = false ∧
    s.ctrl.flushHold = false ∧ s.ctrl.raw = RawBits.none ∧ s.ctrl.sdaOe = false ∧
    s.ctrl.sclOe = false) ∧
  (State.reset.resets.reset = 0x1FFFFFF#25 ∧ State.reset.resets.wdsel = 0#25 ∧
    State.reset.resets.done = 0#25) ∧
  (∀ n : BitVec 5, n.toNat ≤ 29 → ReturnsAs (.rdGpioCtrl n) s 0x3003331F 0x1F ∧
    ReturnsAs (.rdPadGpio n) s 0xFF 0x56) ∧
  (ReturnsAs .rdVoltageSelect s 0x1 0 ∧ ReturnsAs .rdSioGpioOut s 0x3FFFFFFF 0 ∧
    ReturnsAs .rdSioGpioOe s 0x3FFFFFFF 0) ∧
  (s.wires.envSdaLow = false ∧ s.wires.envSclLow = false ∧ s.wires.otherBusy = false ∧ s.trace = [] ∧
    s.marks.refused = [] ∧ s.marks.faulted = []) ∧
  (∀ t : State, (resetBlock 3 t).i2c = s.i2c ∧ (resetBlock 3 t).ctrl = s.ctrl ∧
    (resetBlock 5 t).io = s.io ∧ (resetBlock 8 t).pads = s.pads)

/-! ### I2C0: reads of the configuration registers -/

/-- A read of a configuration register returns its stored fields in their places (41_i2c_config.md R302, R304 to
R312, R324). A read of IC_CON at an alias is refused (R302). -/
def Obligations.ConfigRegisterReads : Prop :=
  ∀ s : State, s.resets.done.getLsbD 3 = true →
    Reads .rdIcCon s 0x7FF (fun v =>
      v.getLsbD 0 = s.i2c.con.masterMode ∧ v.extractLsb' 1 2 = s.i2c.con.speed ∧
      v.getLsbD 3 = s.i2c.con.tenBitAddrSlave ∧ v.getLsbD 4 = s.i2c.con.tenBitAddrMaster ∧
      v.getLsbD 5 = s.i2c.con.restartEn ∧ v.getLsbD 6 = s.i2c.con.slaveDisable ∧
      v.getLsbD 7 = s.i2c.con.stopDetIfAddressed ∧ v.getLsbD 8 = s.i2c.con.txEmptyCtrl ∧
      v.getLsbD 9 = s.i2c.con.rxFifoFullHldCtrl ∧ v.getLsbD 10 = false) ∧
    (∀ op v, op ≠ .normal →
      decode (.acc 4 (accOf false blkI2c0 op 0x000) v) = .error .aliasRead) ∧
    Reads .rdIcTar s 0xFFF (fun v => v.extractLsb' 0 10 = s.i2c.tar.addr ∧
      v.getLsbD 10 = s.i2c.tar.gcOrStart ∧ v.getLsbD 11 = s.i2c.tar.special) ∧
    Reads .rdIcSar s 0x3FF (fun v => v.extractLsb' 0 10 = s.i2c.sar) ∧
    Reads .rdIcSsSclHcnt s 0xFFFF (fun v => v.extractLsb' 0 16 = s.i2c.ssHcnt) ∧
    Reads .rdIcSsSclLcnt s 0xFFFF (fun v => v.extractLsb' 0 16 = s.i2c.ssLcnt) ∧
    Reads .rdIcFsSclHcnt s 0xFFFF (fun v => v.extractLsb' 0 16 = s.i2c.fsHcnt) ∧
    Reads .rdIcFsSclLcnt s 0xFFFF (fun v => v.extractLsb' 0 16 = s.i2c.fsLcnt) ∧
    Reads .rdIcFsSpklen s 0xFF (fun v => v.extractLsb' 0 8 = s.i2c.fsSpklen) ∧
    Reads .rdIcSdaHold s 0xFFFFFF (fun v => v.extractLsb' 0 16 = s.i2c.sdaTxHold ∧
      v.extractLsb' 16 8 = s.i2c.sdaRxHold) ∧
    Reads .rdIcSdaSetup s 0xFF (fun v => v.extractLsb' 0 8 = s.i2c.sdaSetup) ∧
    Reads .rdIcIntrMask s 0x1FFF (fun v => v.extractLsb' 0 13 = s.i2c.intrMask) ∧
    Reads .rdIcRxTl s 0xFF (fun v => v.extractLsb' 0 8 = s.i2c.rxTl) ∧
    Reads .rdIcTxTl s 0xFF (fun v => v.extractLsb' 0 8 = s.i2c.txTl) ∧
    Reads .rdIcDmaCr s 0x3 (fun v => v.extractLsb' 0 2 = s.i2c.dmaCr) ∧
    Reads .rdIcDmaTdlr s 0xF (fun v => v.extractLsb' 0 4 = s.i2c.dmaTdlr) ∧
    Reads .rdIcDmaRdlr s 0xF (fun v => v.extractLsb' 0 4 = s.i2c.dmaRdlr) ∧
    Reads .rdIcSlvDataNackOnly s 0x1 (fun v => v.getLsbD 0 = s.i2c.slvDataNackOnly) ∧
    Reads .rdIcAckGeneralCall s 0x1 (fun v => v.getLsbD 0 = s.i2c.ackGeneralCall) ∧
    Reads .rdIcEnable s 0x7 (fun v => v.getLsbD 0 = s.i2c.enable.enable ∧
      v.getLsbD 1 = s.i2c.enable.abort ∧ v.getLsbD 2 = s.i2c.enable.txCmdBlock)

/-! ### I2C0: status, interrupts, identification -/

/-- The FIFO levels, IC_STATUS and IC_ENABLE_STATUS (42_i2c_data_status.md R360, R363, R365, R369). -/
def Obligations.StatusReads : Prop :=
  ∀ s : State, s.resets.done.getLsbD 3 = true →
    (s.ctrl.txq.length ≤ 16 →
      Reads .rdIcTxflr s 0x1F (fun v => (v.extractLsb' 0 5).toNat = s.ctrl.txq.length)) ∧
    (s.ctrl.rxq.length ≤ 16 →
      Reads .rdIcRxflr s 0x1F (fun v => (v.extractLsb' 0 5).toNat = s.ctrl.rxq.length)) ∧
    Reads .rdIcStatus s 0x7F (fun v =>
      v.getLsbD 0 = (s.ctrl.owned || s.ctrl.shift.isSome) ∧
      v.getLsbD 1 = decide (s.ctrl.txq.length < 16) ∧ v.getLsbD 2 = decide (s.ctrl.txq = []) ∧
      v.getLsbD 3 = decide (s.ctrl.rxq ≠ []) ∧ v.getLsbD 4 = decide (s.ctrl.rxq.length = 16) ∧
      v.getLsbD 5 = (s.ctrl.owned || s.ctrl.shift.isSome) ∧ v.getLsbD 6 = false) ∧
    Reads .rdIcEnableStatus s 0x7 (fun v =>
      v.getLsbD 0 = s.ctrl.icEn ∧ v.getLsbD 1 = false ∧ v.getLsbD 2 = false)

/-- IC_RAW_INTR_STAT shows the latched bits and the two computed ones, RX_FULL and TX_EMPTY; IC_INTR_STAT is its
conjunction with the mask; the interrupt line is the disjunction of that (42_i2c_data_status.md R361, R362,
R366, R367, 60_exceptions.md R610). -/
def Obligations.InterruptReads : Prop :=
  ∀ s : State, s.resets.done.getLsbD 3 = true →
    ∃ raw : BitVec 13,
      raw.getLsbD 0 = s.ctrl.raw.rxUnder ∧ raw.getLsbD 1 = s.ctrl.raw.rxOver ∧
      raw.getLsbD 2 = decide (s.i2c.rxTl.toNat < s.ctrl.rxq.length) ∧
      raw.getLsbD 3 = s.ctrl.raw.txOver ∧
      raw.getLsbD 4 = (s.ctrl.icEn && decide (s.ctrl.txq.length ≤ s.i2c.txTl.toNat) &&
        (!s.i2c.con.txEmptyCtrl || s.ctrl.shift.isNone)) ∧
      raw.getLsbD 5 = s.ctrl.raw.rdReq ∧ raw.getLsbD 6 = s.ctrl.raw.txAbrt ∧
      raw.getLsbD 7 = s.ctrl.raw.rxDone ∧ raw.getLsbD 8 = s.ctrl.raw.activity ∧
      raw.getLsbD 9 = s.ctrl.raw.stopDet ∧ raw.getLsbD 10 = s.ctrl.raw.startDet ∧
      raw.getLsbD 11 = s.ctrl.raw.genCall ∧ raw.getLsbD 12 = s.ctrl.raw.restartDet ∧
      Reads .rdIcRawIntrStat s 0x1FFF (fun v => v.extractLsb' 0 13 = raw) ∧
      Reads .rdIcIntrStat s 0x1FFF (fun v => v.extractLsb' 0 13 = raw &&& s.i2c.intrMask) ∧
      (i2c0Irq s = true ↔ ∃ k, k < 13 ∧ raw.getLsbD k = true ∧ s.i2c.intrMask.getLsbD k = true)

/-- IC_TX_ABRT_SOURCE shows the cause bits 16:0 and TX_FLUSH_CNT in 31:23 (42_i2c_data_status.md R368); the
identification registers return their constants (R374). -/
def Obligations.AbortSourceAndIdentityReads : Prop :=
  ∀ s : State, s.resets.done.getLsbD 3 = true →
    Reads .rdIcTxAbrtSource s 0xFF81FFFF (fun v =>
      v.extractLsb' 0 17 = s.i2c.abrtSource ∧ v.extractLsb' 23 9 = s.i2c.txFlushCnt) ∧
    exec .rdIcCompParam1 s = .next (answered s Config.compParam1 0) ∧
    exec .rdIcCompVersion s = .next (answered s 0x3230312A 0) ∧
    exec .rdIcCompType s = .next (answered s 0x44570140 0)

/-! ### I2C0: clear registers -/

/-- A read of a single-bit clear register clears its bit and no other, and returns a free word; IC_CLR_ACTIVITY
leaves MST_ACTIVITY (42_i2c_data_status.md R370, R372, R373). -/
def Obligations.SingleBitClears : Prop :=
  ∀ s : State, s.resets.done.getLsbD 3 = true →
    let clears (i : Instr) (r : RawBits) : Prop :=
      ∃ v, exec i s = .next (answered { s with ctrl := { s.ctrl with raw := r } } v 1)
    clears .rdIcClrRxUnder { s.ctrl.raw with rxUnder := false } ∧
    clears .rdIcClrRxOver { s.ctrl.raw with rxOver := false } ∧
    clears .rdIcClrTxOver { s.ctrl.raw with txOver := false } ∧
    clears .rdIcClrRdReq { s.ctrl.raw with rdReq := false } ∧
    clears .rdIcClrRxDone { s.ctrl.raw with rxDone := false } ∧
    clears .rdIcClrStopDet { s.ctrl.raw with stopDet := false } ∧
    clears .rdIcClrStartDet { s.ctrl.raw with startDet := false } ∧
    clears .rdIcClrGenCall { s.ctrl.raw with genCall := false } ∧
    clears .rdIcClrRestartDet { s.ctrl.raw with restartDet := false } ∧
    clears .rdIcClrActivity
      { s.ctrl.raw with activity := s.ctrl.owned || s.ctrl.shift.isSome }

/-- A read of IC_CLR_TX_ABRT clears TX_ABRT, and one of IC_CLR_INTR every latched bit (ACTIVITY to
MST_ACTIVITY); each clears the abort causes, leaves TX_FLUSH_CNT free and ends the flush hold
(42_i2c_data_status.md R371, R373, R375, 60_exceptions.md R607). -/
def Obligations.AbortClears : Prop :=
  ∀ s : State, s.resets.done.getLsbD 3 = true →
    let cleared (r : RawBits) (c : BitVec 9) : State :=
      { s with
        i2c := { s.i2c with abrtSource := 0, txFlushCnt := c }
        ctrl := { s.ctrl with raw := r, flushHold := false } }
    (∃ v c, exec .rdIcClrTxAbrt s =
      .next (answered (cleared { s.ctrl.raw with txAbrt := false } c) v 2)) ∧
    (∃ v c, exec .rdIcClrIntr s =
      .next (answered (cleared
        { rxUnder := false, rxOver := false, txOver := false, rdReq := false, txAbrt := false,
          rxDone := false, activity := s.ctrl.owned || s.ctrl.shift.isSome, stopDet := false,
          startDet := false, genCall := false, restartDet := false } c) v 2))

/-! ### I2C0: IC_DATA_CMD -/

/-- A write of IC_DATA_CMD (42_i2c_data_status.md R350): refused while disabled, then during the flush hold;
TX_OVER where TXQ is full; otherwise the command of R161 at the end of TXQ. A read of it (R355): refused
while disabled; RX_UNDER and a free word where RXQ is empty; otherwise its oldest byte in bits 7:0, which
leaves RXQ. -/
def Obligations.DataCmdAccesses : Prop :=
  ∀ s : State, s.resets.done.getLsbD 3 = true →
    (s.ctrl.icEn = false → exec .rdIcDataCmd s = .next (refuse .dataCmdWhileDisabled s) ∧
      ∀ v, exec (.wrIcDataCmd v) s = .next (refuse .dataCmdWhileDisabled s)) ∧
    (s.ctrl.icEn = true → s.ctrl.flushHold = true →
      ∀ v, exec (.wrIcDataCmd v) s = .next (refuse .dataCmdDuringFlush s)) ∧
    (s.ctrl.icEn = true → s.ctrl.flushHold = false → ∀ v, exec (.wrIcDataCmd v) s =
      .next (if s.ctrl.txq.length = 16
        then { s with ctrl := { s.ctrl with raw := { s.ctrl.raw with txOver := true } } }
        else { s with ctrl := { s.ctrl with txq := s.ctrl.txq ++
          [{ cmd := v.getLsbD 8, stop := v.getLsbD 9, restart := v.getLsbD 10,
             dat := v.extractLsb' 0 8 }] } })) ∧
    (s.ctrl.icEn = true → s.ctrl.rxq = [] →
      ∃ v, exec .rdIcDataCmd s = .next (answered
        { s with ctrl := { s.ctrl with raw := { s.ctrl.raw with rxUnder := true } } } v 1)) ∧
    (∀ b rest, s.ctrl.icEn = true → s.ctrl.rxq = b :: rest →
      ∃ v, exec .rdIcDataCmd s =
          .next (answered { s with ctrl := { s.ctrl with rxq := rest } } v 1) ∧
        v.extractLsb' 0 8 = b)

/-! ### I2C0: IC_ENABLE -/

/-- The admission check of a write that turns the controller on: its tests in order, the first failing one
refused, and the controller enabled where none fails; the reset values fail the high count's test
(41_i2c_config.md R330, R320, 70_reset_and_hazards.md R704). -/
def Obligations.AdmissionCheck : Prop :=
  (∀ (v : Word) (s : State), s.resets.done.getLsbD 3 = true → s.ctrl.icEn = false →
    v.getLsbD 0 = true →
    let h := if s.i2c.con.speed = 1#2 then s.i2c.ssHcnt.toNat else s.i2c.fsHcnt.toNat
    let l := if s.i2c.con.speed = 1#2 then s.i2c.ssLcnt.toNat else s.i2c.fsLcnt.toNat
    exec (.wrIcEnable v) s = .next
      (if s.i2c.con.masterMode = false then refuse .enableSlaveMode s
       else if s.i2c.con.slaveDisable = false then refuse .enableSlaveMode s
       else if s.i2c.con.tenBitAddrMaster = true then refuse .enable10bit s
       else if s.i2c.tar.special = true then refuse .enableSpecial s
       else if h ≤ s.i2c.fsSpklen.toNat + 5 then refuse .enableHcntTooSmall s
       else if l ≤ s.i2c.fsSpklen.toNat + 7 then refuse .enableLcntTooSmall s
       else if s.i2c.sdaTxHold.toNat + 2 ≥ l then refuse .enableSdaHoldTooLong s
       else { s with
         i2c := { s.i2c with enable :=
           { enable := true, abort := v.getLsbD 1 || s.i2c.enable.abort,
             txCmdBlock := v.getLsbD 2 } }
         ctrl := { s.ctrl with icEn := true } })) ∧
  ∀ (v : Word) (s : State), s.resets.done.getLsbD 3 = true → v.getLsbD 0 = true →
    s.i2c = (State.launch 0).i2c → s.ctrl = (State.launch 0).ctrl →
    exec (.wrIcEnable v) s = .next (refuse .enableHcntTooSmall s)

/-- Every other write of IC_ENABLE (41_i2c_config.md R320 to R323): the two refusals, the disable of R321, a
write while already disabled, and a write while enabled, which may request an abort. -/
def Obligations.EnableOtherWrites : Prop :=
  ∀ (v : Word) (s : State), s.resets.done.getLsbD 3 = true →
    let stored (e : Bool) (t : State) : State :=
      { t with i2c := { t.i2c with enable :=
        { enable := e, abort := v.getLsbD 1 || t.i2c.enable.abort, txCmdBlock := v.getLsbD 2 } } }
    (v.getLsbD 0 = false → v.getLsbD 1 = true →
      exec (.wrIcEnable v) s = .next (refuse .abortWhileDisabling s)) ∧
    (v.getLsbD 0 = false → v.getLsbD 1 = false → s.ctrl.icEn = true →
      (s.ctrl.owned = true ∨ s.ctrl.shift ≠ none ∨ s.i2c.enable.abort = true) →
      exec (.wrIcEnable v) s = .next (refuse .disableWhileActive s)) ∧
    (v.getLsbD 0 = false → v.getLsbD 1 = false → s.ctrl.icEn = true →
      s.ctrl.owned = false → s.ctrl.shift = none → s.i2c.enable.abort = false →
      exec (.wrIcEnable v) s = .next (stored false { s with ctrl := { s.ctrl with
        icEn := false, txq := [], rxq := [], sdaOe := false, sclOe := false
        raw := { s.ctrl.raw with
          activity := false, rxUnder := false, rxOver := false, txOver := false } } })) ∧
    (v.getLsbD 0 = false → v.getLsbD 1 = false → s.ctrl.icEn = false →
      exec (.wrIcEnable v) s = .next (stored false s)) ∧
    (v.getLsbD 0 = true → s.ctrl.icEn = true → exec (.wrIcEnable v) s = .next (stored true s))

/-! ### I2C0: writes of the configuration registers -/

/-- While enabled a write of a gated register does nothing and is not refused (41_i2c_config.md R301). -/
def Obligations.GatedWritesWhileEnabled : Prop :=
  ∀ (op : AliasOp) (v : Word) (s : State), s.resets.done.getLsbD 3 = true → s.ctrl.icEn = true →
    exec (.wrIcCon op v) s = .next s ∧ exec (.wrIcTar op v) s = .next s ∧
    exec (.wrIcSar op v) s = .next s ∧ exec (.wrIcSsSclHcnt op v) s = .next s ∧
    exec (.wrIcSsSclLcnt op v) s = .next s ∧ exec (.wrIcFsSclHcnt op v) s = .next s ∧
    exec (.wrIcFsSclLcnt op v) s = .next s ∧ exec (.wrIcFsSpklen op v) s = .next s

/-- A write of IC_CON while disabled stores every field, SPEED as 1 or 2, and ignores bit 10 and above
(41_i2c_config.md R303, 20_memory.md R106). -/
def Obligations.ControlRegisterWrite : Prop :=
  ∀ (op : AliasOp) (v : Word) (s : State), s.resets.done.getLsbD 3 = true → s.ctrl.icEn = false →
    ∃ (c : IcCon) (speed : BitVec 2),
      exec (.wrIcCon op v) s = .next { s with i2c := { s.i2c with con := c } } ∧
      FieldWritten op s.i2c.con.speed speed v 1 ∧ c.speed = (if speed = 1#2 then 1#2 else 2#2) ∧
      c.masterMode = aliasBit op s.i2c.con.masterMode (v.getLsbD 0) ∧
      c.tenBitAddrSlave = aliasBit op s.i2c.con.tenBitAddrSlave (v.getLsbD 3) ∧
      c.tenBitAddrMaster = aliasBit op s.i2c.con.tenBitAddrMaster (v.getLsbD 4) ∧
      c.restartEn = aliasBit op s.i2c.con.restartEn (v.getLsbD 5) ∧
      c.slaveDisable = aliasBit op s.i2c.con.slaveDisable (v.getLsbD 6) ∧
      c.stopDetIfAddressed = aliasBit op s.i2c.con.stopDetIfAddressed (v.getLsbD 7) ∧
      c.txEmptyCtrl = aliasBit op s.i2c.con.txEmptyCtrl (v.getLsbD 8) ∧
      c.rxFifoFullHldCtrl = aliasBit op s.i2c.con.rxFifoFullHldCtrl (v.getLsbD 9)

/-- Writes of IC_TAR, IC_SAR, the SCL counts and IC_FS_SPKLEN while disabled: a count below its minimum stores
the minimum (41_i2c_config.md R304, R305, R307, R308). -/
def Obligations.AddressAndCountWrites : Prop :=
  ∀ (op : AliasOp) (v : Word) (s : State), s.resets.done.getLsbD 3 = true → s.ctrl.icEn = false →
    (∃ a, FieldWritten op s.i2c.tar.addr a v 0 ∧
      exec (.wrIcTar op v) s = .next { s with i2c := { s.i2c with tar :=
        { addr := a, gcOrStart := aliasBit op s.i2c.tar.gcOrStart (v.getLsbD 10),
          special := aliasBit op s.i2c.tar.special (v.getLsbD 11) } } }) ∧
    (∃ a, FieldWritten op s.i2c.sar a v 0 ∧
      exec (.wrIcSar op v) s = .next { s with i2c := { s.i2c with sar := a } }) ∧
    (∃ x y : BitVec 16, FieldWritten op s.i2c.ssHcnt x v 0 ∧ y.toNat = max x.toNat 6 ∧
      exec (.wrIcSsSclHcnt op v) s = .next { s with i2c := { s.i2c with ssHcnt := y } }) ∧
    (∃ x y : BitVec 16, FieldWritten op s.i2c.ssLcnt x v 0 ∧ y.toNat = max x.toNat 8 ∧
      exec (.wrIcSsSclLcnt op v) s = .next { s with i2c := { s.i2c with ssLcnt := y } }) ∧
    (∃ x y : BitVec 16, FieldWritten op s.i2c.fsHcnt x v 0 ∧ y.toNat = max x.toNat 6 ∧
      exec (.wrIcFsSclHcnt op v) s = .next { s with i2c := { s.i2c with fsHcnt := y } }) ∧
    (∃ x y : BitVec 16, FieldWritten op s.i2c.fsLcnt x v 0 ∧ y.toNat = max x.toNat 8 ∧
      exec (.wrIcFsSclLcnt op v) s = .next { s with i2c := { s.i2c with fsLcnt := y } }) ∧
    (∃ x y : BitVec 8, FieldWritten op s.i2c.fsSpklen x v 0 ∧ y.toNat = max x.toNat 1 ∧
      exec (.wrIcFsSpklen op v) s = .next { s with i2c := { s.i2c with fsSpklen := y } })

/-- Writes of IC_SDA_HOLD and IC_SDA_SETUP: stored while disabled, refused while enabled
(41_i2c_config.md R306). -/
def Obligations.HoldAndSetupWrites : Prop :=
  ∀ (op : AliasOp) (v : Word) (s : State), s.resets.done.getLsbD 3 = true →
    (s.ctrl.icEn = true →
      exec (.wrIcSdaHold op v) s = .next (refuse .configWhileEnabled s) ∧
      exec (.wrIcSdaSetup op v) s = .next (refuse .configWhileEnabled s)) ∧
    (s.ctrl.icEn = false →
      (∃ t r, FieldWritten op s.i2c.sdaTxHold t v 0 ∧ FieldWritten op s.i2c.sdaRxHold r v 16 ∧
        exec (.wrIcSdaHold op v) s =
          .next { s with i2c := { s.i2c with sdaTxHold := t, sdaRxHold := r } }) ∧
      (∃ x, FieldWritten op s.i2c.sdaSetup x v 0 ∧
        exec (.wrIcSdaSetup op v) s = .next { s with i2c := { s.i2c with sdaSetup := x } }))

/-- Writes of IC_INTR_MASK, the DMA registers, IC_SLV_DATA_NACK_ONLY and IC_ACK_GENERAL_CALL store their fields at
any time (41_i2c_config.md R309, R311, R312). -/
def Obligations.UngatedWrites : Prop :=
  ∀ (op : AliasOp) (v : Word) (s : State), s.resets.done.getLsbD 3 = true →
    (∃ x, FieldWritten op s.i2c.intrMask x v 0 ∧
      exec (.wrIcIntrMask op v) s = .next { s with i2c := { s.i2c with intrMask := x } }) ∧
    (∃ x, FieldWritten op s.i2c.dmaCr x v 0 ∧
      exec (.wrIcDmaCr op v) s = .next { s with i2c := { s.i2c with dmaCr := x } }) ∧
    (∃ x, FieldWritten op s.i2c.dmaTdlr x v 0 ∧
      exec (.wrIcDmaTdlr op v) s = .next { s with i2c := { s.i2c with dmaTdlr := x } }) ∧
    (∃ x, FieldWritten op s.i2c.dmaRdlr x v 0 ∧
      exec (.wrIcDmaRdlr op v) s = .next { s with i2c := { s.i2c with dmaRdlr := x } }) ∧
    exec (.wrIcSlvDataNackOnly op v) s = .next { s with i2c := { s.i2c with
      slvDataNackOnly := aliasBit op s.i2c.slvDataNackOnly (v.getLsbD 0) } } ∧
    exec (.wrIcAckGeneralCall op v) s = .next { s with i2c := { s.i2c with
      ackGeneralCall := aliasBit op s.i2c.ackGeneralCall (v.getLsbD 0) } }

/-- Writes of IC_RX_TL and IC_TX_TL store the field at any time, and a value above 15 is refused
(41_i2c_config.md R310). -/
def Obligations.ThresholdWrites : Prop :=
  ∀ (op : AliasOp) (v : Word) (s : State), s.resets.done.getLsbD 3 = true →
    (∃ x : BitVec 8, FieldWritten op s.i2c.rxTl x v 0 ∧
      exec (.wrIcRxTl op v) s = .next
        (if x.toNat > 15 then refuse .thresholdRange s
         else { s with i2c := { s.i2c with rxTl := x } })) ∧
    (∃ x : BitVec 8, FieldWritten op s.i2c.txTl x v 0 ∧
      exec (.wrIcTxTl op v) s = .next
        (if x.toNat > 15 then refuse .thresholdRange s
         else { s with i2c := { s.i2c with txTl := x } }))

/-- A write at alias k of a plain register is, as one step, the alias-0 write of `v`, `old XOR v`, `old OR v` or
`old AND NOT v`, where `old` is the stored value with reserved and read-only bits 0 (20_memory.md R106,
R107). -/
def Obligations.AliasWriteIsOneNormalWrite : Prop :=
  ∀ (op : AliasOp) (v w : Word) (s : State),
    let same (f : AliasOp → Word → Instr) (old : Word) : Prop :=
      WordWritten op old v w → exec (f op v) s = exec (f .normal w) s
    same .wrIcCon ((icConWord s.i2c.con).setWidth 32) ∧
    same .wrIcTar ((icTarWord s.i2c.tar).setWidth 32) ∧
    same .wrIcSar (s.i2c.sar.setWidth 32) ∧
    same .wrIcSsSclHcnt (s.i2c.ssHcnt.setWidth 32) ∧ same .wrIcSsSclLcnt (s.i2c.ssLcnt.setWidth 32) ∧
    same .wrIcFsSclHcnt (s.i2c.fsHcnt.setWidth 32) ∧ same .wrIcFsSclLcnt (s.i2c.fsLcnt.setWidth 32) ∧
    same .wrIcIntrMask (s.i2c.intrMask.setWidth 32) ∧
    same .wrIcRxTl (s.i2c.rxTl.setWidth 32) ∧ same .wrIcTxTl (s.i2c.txTl.setWidth 32) ∧
    same .wrIcSdaHold ((sdaHoldWord s.i2c).setWidth 32) ∧
    same .wrIcSdaSetup (s.i2c.sdaSetup.setWidth 32) ∧
    same .wrIcSlvDataNackOnly ((BitVec.ofBool s.i2c.slvDataNackOnly).setWidth 32) ∧
    same .wrIcDmaCr (s.i2c.dmaCr.setWidth 32) ∧ same .wrIcDmaTdlr (s.i2c.dmaTdlr.setWidth 32) ∧
    same .wrIcDmaRdlr (s.i2c.dmaRdlr.setWidth 32) ∧
    same .wrIcAckGeneralCall ((BitVec.ofBool s.i2c.ackGeneralCall).setWidth 32) ∧
    same .wrIcFsSpklen (s.i2c.fsSpklen.setWidth 32) ∧
    same .wrResetsReset (s.resets.reset.setWidth 32) ∧
    same .wrResetsWdsel (s.resets.wdsel.setWidth 32) ∧
    same .wrVoltageSelect ((BitVec.ofBool s.pads.voltageSelect).setWidth 32) ∧
    (∀ n : BitVec 5, same (.wrGpioCtrl n) (pinCtrlWord (pinCtrlOf s n.toNat)) ∧
      same (.wrPadGpio n) ((padWord (padOf s n.toNat)).setWidth 32))

/-! ### RESETS -/

/-- Reads of RESET, WDSEL and RESET_DONE, and the write of WDSEL, which is stored and has no other effect
(40_pin_mux.md R200, R202, R203). -/
def Obligations.ResetsReadsAndWdsel : Prop :=
  ∀ s : State,
    Reads .rdResetsReset s 0x1FFFFFF (fun v => v.extractLsb' 0 25 = s.resets.reset) ∧
    Reads .rdResetsWdsel s 0x1FFFFFF (fun v => v.extractLsb' 0 25 = s.resets.wdsel) ∧
    Reads .rdResetsResetDone s 0x1FFFFFF (fun v => v.extractLsb' 0 25 = s.resets.done) ∧
    ∀ (op : AliasOp) (v : Word), ∃ x, FieldWritten op s.resets.wdsel x v 0 ∧
      exec (.wrResetsWdsel op v) s = .next { s with resets := { s.resets with wdsel := x } }

/-- The write of RESETS.RESET: every rising bit enters reset, its RESET_DONE bit falls and a block in scope goes
to its reset values; a falling bit leaves RESET_DONE as it is; SIO, WIRES, TRACE and MARKS stay
(40_pin_mux.md R201, R204, R206, 70_reset_and_hazards.md R702). -/
def Obligations.ResetWrite : Prop :=
  ∀ (op : AliasOp) (v : Word) (s : State), ∃ x d : BitVec 25,
    FieldWritten op s.resets.reset x v 0 ∧
    (let rises (k : Nat) : Bool := x.getLsbD k && !s.resets.reset.getLsbD k
     (∀ k, k < 25 → d.getLsbD k = (s.resets.done.getLsbD k && !rises k)) ∧
     exec (.wrResetsReset op v) s = .next { s with
       i2c := if rises 3 then I2cRegs.reset else s.i2c
       ctrl := if rises 3 then Ctrl.reset else s.ctrl
       io := if rises 5 then IoBank.reset else s.io
       pads := if rises 8 then PadsBank.reset else s.pads
       resets := { s.resets with reset := x, done := d } })

/-- RSTAGENT's release step: where RESET[i] and RESET_DONE[i] are 0 it sets RESET_DONE[i] and nothing else, and
otherwise it is not enabled (40_pin_mux.md R205). That such a turn is a step which only takes the turn is the
model's reading (log entry 13). -/
def Obligations.ReleaseStep : Prop :=
  ∀ (s : State) (i : Fin 25), nextTurn s = .rst i →
    (s.resets.reset.getLsbD i = false → s.resets.done.getLsbD i = false →
      ∃ d : BitVec 25, (∀ k, k < 25 → d.getLsbD k = (s.resets.done.getLsbD k || k == i.val)) ∧
        step s = .next (settle { beginTurn s with resets := { s.resets with done := d } })) ∧
    (s.resets.reset.getLsbD i = true ∨ s.resets.done.getLsbD i = true →
      step s = .next (beginTurn s))

/-! ### Pins and pads -/

/-- The write of GPIOn_CTRL: a reserved function and a second pin on one I2C0 signal are refused, any other value
stores its five fields on pin n alone (40_pin_mux.md R231). -/
def Obligations.PinControlWrite : Prop :=
  ∀ (n : BitVec 5) (op : AliasOp) (v : Word) (s : State), n.toNat ≤ 29 →
    s.resets.done.getLsbD 5 = true →
    ∃ c : PinCtrl,
      FieldWritten op (pinCtrlOf s n.toNat).funcsel c.funcsel v 0 ∧
      FieldWritten op (pinCtrlOf s n.toNat).outover c.outover v 8 ∧
      FieldWritten op (pinCtrlOf s n.toNat).oeover c.oeover v 12 ∧
      FieldWritten op (pinCtrlOf s n.toNat).inover c.inover v 16 ∧
      FieldWritten op (pinCtrlOf s n.toNat).irqover c.irqover v 28 ∧
      (let f := c.funcsel.toNat
       let legal : Prop := (1 ≤ f ∧ f ≤ 9 ∨ f = 31) ∧ (f = 8 → 20 ≤ n.toNat ∧ n.toNat ≤ 25)
       let clash : Prop := f = 3 ∧ n.toNat / 2 % 2 = 0 ∧
         ∃ m, m < 30 ∧ m ≠ n.toNat ∧ (pinCtrlOf s m).funcsel.toNat = 3 ∧ m / 2 % 2 = 0 ∧
           m % 2 = n.toNat % 2
       (¬ legal → exec (.wrGpioCtrl n op v) s = .next (refuse .funcselReserved s)) ∧
       (legal → clash → exec (.wrGpioCtrl n op v) s = .next (refuse .i2c0SignalOnTwoPins s)) ∧
       (legal → ¬ clash → ∃ t, exec (.wrGpioCtrl n op v) s = .next t ∧ t = { s with io := t.io } ∧
         pinCtrlOf t n.toNat = c ∧
         ∀ m, m < 30 → m ≠ n.toNat → pinCtrlOf t m = pinCtrlOf s m))

/-- Writes of a pad register and of VOLTAGE_SELECT store their fields and nothing else
(40_pin_mux.md R248, R249). -/
def Obligations.PadWrites : Prop :=
  ∀ (op : AliasOp) (v : Word) (s : State), s.resets.done.getLsbD 8 = true →
    exec (.wrVoltageSelect op v) s = .next { s with pads := { s.pads with
      voltageSelect := aliasBit op s.pads.voltageSelect (v.getLsbD 0) } } ∧
    ∀ n : BitVec 5, n.toNat ≤ 29 → ∃ (p : Pad) (t : State),
      exec (.wrPadGpio n op v) s = .next t ∧ t = { s with pads := t.pads } ∧
      t.pads.voltageSelect = s.pads.voltageSelect ∧ padOf t n.toNat = p ∧
      (∀ m, m < 30 → m ≠ n.toNat → padOf t m = padOf s m) ∧
      p.slewfast = aliasBit op (padOf s n.toNat).slewfast (v.getLsbD 0) ∧
      p.schmitt = aliasBit op (padOf s n.toNat).schmitt (v.getLsbD 1) ∧
      p.pde = aliasBit op (padOf s n.toNat).pde (v.getLsbD 2) ∧
      p.pue = aliasBit op (padOf s n.toNat).pue (v.getLsbD 3) ∧
      FieldWritten op (padOf s n.toNat).drive p.drive v 4 ∧
      p.ie = aliasBit op (padOf s n.toNat).ie (v.getLsbD 6) ∧
      p.od = aliasBit op (padOf s n.toNat).od (v.getLsbD 7)

/-- Reads of GPIOn_CTRL, of a pad register and of VOLTAGE_SELECT return the stored fields in their places
(40_pin_mux.md R232, R248, R249). -/
def Obligations.PinRegisterReads : Prop :=
  ∀ s : State,
    (s.resets.done.getLsbD 5 = true → ∀ n : BitVec 5, n.toNat ≤ 29 →
      Reads (.rdGpioCtrl n) s 0x3003331F (fun v =>
        v.extractLsb' 0 5 = (pinCtrlOf s n.toNat).funcsel ∧
        v.extractLsb' 8 2 = (pinCtrlOf s n.toNat).outover ∧
        v.extractLsb' 12 2 = (pinCtrlOf s n.toNat).oeover ∧
        v.extractLsb' 16 2 = (pinCtrlOf s n.toNat).inover ∧
        v.extractLsb' 28 2 = (pinCtrlOf s n.toNat).irqover)) ∧
    (s.resets.done.getLsbD 8 = true →
      Reads .rdVoltageSelect s 0x1 (fun v => v.getLsbD 0 = s.pads.voltageSelect) ∧
      ∀ n : BitVec 5, n.toNat ≤ 29 →
        Reads (.rdPadGpio n) s 0xFF (fun v =>
          v.getLsbD 0 = (padOf s n.toNat).slewfast ∧ v.getLsbD 1 = (padOf s n.toNat).schmitt ∧
          v.getLsbD 2 = (padOf s n.toNat).pde ∧ v.getLsbD 3 = (padOf s n.toNat).pue ∧
          v.extractLsb' 4 2 = (padOf s n.toNat).drive ∧ v.getLsbD 6 = (padOf s n.toNat).ie ∧
          v.getLsbD 7 = (padOf s n.toNat).od))

/-- The read of GPIOn_STATUS shows the pin's peripheral outputs, overridden outputs and input path at the moment
of the read (40_pin_mux.md R240, R233 to R235). It changes nothing but the value returned and the marks: where
the pad's input is enabled and the node contends, the read marks that contention after the marks there were
(R250, vector X18), and otherwise the marks stay. That a disabled input computes no level is log entry 12;
that the outputs are drawn at the moment of the read and the level at the next is log entry 4. -/
def Obligations.PinStatusRead : Prop :=
  ∀ (n : BitVec 5) (s : State), n.toNat ≤ 29 → s.resets.done.getLsbD 5 = true →
    ∃ v, exec (.rdGpioStatus n) s = .next { answered s v 2 with
        marks := if (padOf s n.toNat).ie = true ∧ contends s (s.draws + 1) n.toNat = true
          then { s.marks with faulted := s.marks.faulted ++ [.contention] } else s.marks } ∧
      v.getLsbD 8 = outFromPeri s s.draws n.toNat ∧
      v.getLsbD 9 = overridden (pinCtrlOf s n.toNat).outover (outFromPeri s s.draws n.toNat) ∧
      v.getLsbD 12 = oeFromPeri s s.draws n.toNat ∧
      v.getLsbD 13 = overridden (pinCtrlOf s n.toNat).oeover (oeFromPeri s s.draws n.toNat) ∧
      v.getLsbD 17 = ((padOf s n.toNat).ie && level s (s.draws + 1) n.toNat) ∧
      v.getLsbD 19 = overridden (pinCtrlOf s n.toNat).inover
        ((padOf s n.toNat).ie && level s (s.draws + 1) n.toNat)

/-- The two pins in DOC's configuration connect the bus, in every state whose pin functions are ones the write of
GPIOn_CTRL admits (40_pin_mux.md R270, R245, R231). -/
def Obligations.ConfiguredPinsAreWired : Prop :=
  (∀ (s : State) (n : Nat), i2cPinOk s n = true ↔
    (pinCtrlOf s n).funcsel = 3#5 ∧ (pinCtrlOf s n).outover = 0#2 ∧ (pinCtrlOf s n).oeover = 0#2 ∧
    (pinCtrlOf s n).inover = 0#2 ∧ (padOf s n).pue = true ∧ (padOf s n).pde = false ∧
    (padOf s n).ie = true ∧ (padOf s n).od = false) ∧
  ∀ s : State, pinsLegal s = true → i2cPinOk s 4 = true → i2cPinOk s 5 = true → wired s = true

/-- On configured pins the wires are open drain: each is low exactly where the controller's output enable or the
environment pulls it low, and no contention can occur (40_pin_mux.md R233, R234, R250). -/
def Obligations.ConfiguredWiresAreOpenDrain : Prop :=
  ∀ (s : State) (t : Nat),
    (i2cPinOk s 4 = true →
      sdaLevel s t = !(s.ctrl.sdaOe || s.wires.envSdaLow) ∧ contends s t 4 = false) ∧
    (i2cPinOk s 5 = true →
      sclLevel s t = !(s.ctrl.sclOe || s.wires.envSclLow) ∧ contends s t 5 = false)

/-- The level of a node that is driven or pulled one way (40_pin_mux.md R250): a pull-up is the pad's, the
external one (vector X17), or both. A node contends exactly where its pad drives it high and the environment
pulls it low (vector X18). The level of a pin that SIO drives (R233, R234, R261). -/
def Obligations.NodeLevels : Prop :=
  ∀ (s : State) (t n : Nat),
    (contends s t n = false → nodeLow s t n = true → level s t n = false) ∧
    (nodeLow s t n = false → nodeHigh s t n = true → level s t n = true) ∧
    (contends s t n = true ↔ drives s t n = true ∧ outToPad s t n = true ∧ envLow s n = true) ∧
    (nodeLow s t n = false → nodeHigh s t n = false → ((padOf s n).pue = true ∨ extPullup n = true) →
      (padOf s n).pde = false → level s t n = true) ∧
    (nodeLow s t n = false → nodeHigh s t n = false → (padOf s n).pue = false →
      (padOf s n).pde = true → extPullup n = false → level s t n = false) ∧
    ((pinCtrlOf s n).funcsel = 5#5 → (pinCtrlOf s n).outover = 0#2 → (pinCtrlOf s n).oeover = 0#2 →
      (padOf s n).od = false → envLow s n = false → s.sio.gpioOe.getLsbD n = true →
      level s t n = s.sio.gpioOut.getLsbD n)

/-! ### SIO -/

/-- Reads and writes of GPIO_OUT and GPIO_OE, the SET, CLR and XOR writes, the reads of those write-only
registers, and CPUID (40_pin_mux.md R261, R262, R263, 20_memory.md R102). -/
def Obligations.SioAccesses : Prop :=
  ∀ (v : Word) (s : State),
    let outBecomes (i : Instr) (f : Bool → Bool → Bool) : Prop :=
      ∃ x : BitVec 30, (∀ k, k < 30 → x.getLsbD k = f (s.sio.gpioOut.getLsbD k) (v.getLsbD k)) ∧
        exec i s = .next { s with sio := { s.sio with gpioOut := x } }
    let oeBecomes (i : Instr) (f : Bool → Bool → Bool) : Prop :=
      ∃ x : BitVec 30, (∀ k, k < 30 → x.getLsbD k = f (s.sio.gpioOe.getLsbD k) (v.getLsbD k)) ∧
        exec i s = .next { s with sio := { s.sio with gpioOe := x } }
    outBecomes (.wrSioGpioOut v) (fun _ b => b) ∧
    outBecomes (.wrSioGpioOutSet v) (fun a b => a || b) ∧
    outBecomes (.wrSioGpioOutClr v) (fun a b => a && !b) ∧
    outBecomes (.wrSioGpioOutXor v) (fun a b => a != b) ∧
    oeBecomes (.wrSioGpioOe v) (fun _ b => b) ∧
    oeBecomes (.wrSioGpioOeSet v) (fun a b => a || b) ∧
    oeBecomes (.wrSioGpioOeClr v) (fun a b => a && !b) ∧
    oeBecomes (.wrSioGpioOeXor v) (fun a b => a != b) ∧
    Reads .rdSioGpioOut s 0x3FFFFFFF (fun w => w.extractLsb' 0 30 = s.sio.gpioOut) ∧
    Reads .rdSioGpioOe s 0x3FFFFFFF (fun w => w.extractLsb' 0 30 = s.sio.gpioOe) ∧
    Reads .rdSioGpioOutSet s 0 (fun _ => True) ∧ Reads .rdSioGpioOutClr s 0 (fun _ => True) ∧
    Reads .rdSioGpioOutXor s 0 (fun _ => True) ∧ Reads .rdSioGpioOeSet s 0 (fun _ => True) ∧
    Reads .rdSioGpioOeClr s 0 (fun _ => True) ∧ Reads .rdSioGpioOeXor s 0 (fun _ => True) ∧
    exec .rdSioCpuid s = .next (answered s 0 0)

/-- The read of GPIO_IN returns `infrompad` of each pin, not through INOVER (40_pin_mux.md R260, R235), and marks
one contention for each pin whose input is enabled and whose node contends, after the marks there were
(R250; that a disabled input computes no level is log entry 12). It changes nothing else. -/
def Obligations.GpioInRead : Prop :=
  ∀ s : State,
    let met : List Nat := (List.range 30).filter (fun n => (padOf s n).ie && contends s s.draws n)
    ∃ v, exec .rdSioGpioIn s = .next { answered s v 1 with
      marks := { s.marks with faulted := s.marks.faulted ++ met.map (fun _ => .contention) } } ∧
    ∀ n, n < 30 → v.getLsbD n = ((padOf s n).ie && level s s.draws n)

/-! ### The controller -/

/-- S_POP, exactly under its guard, takes the oldest command of TXQ in hand and sets ACTIVITY; it emits no bus
event (43_i2c_fsm.md R423). -/
def Obligations.PopStep : Prop :=
  (∀ s : State, popEnabled s = true ↔
    (s.ctrl.icEn = true ∧ s.resets.reset.getLsbD 3 = false ∧ s.i2c.enable.abort = false ∧
      s.ctrl.flushHold = false ∧ s.i2c.enable.txCmdBlock = false ∧ s.ctrl.shift = none ∧
      s.ctrl.txq ≠ [])) ∧
  ∀ (s : State) (c : Cmd) (rest : List Cmd), nextTurn s = .ctrl → s.ctrl.icEn = true →
    s.resets.reset.getLsbD 3 = false → s.i2c.enable.abort = false → s.ctrl.flushHold = false →
    s.i2c.enable.txCmdBlock = false → s.ctrl.shift = none → s.ctrl.txq = c :: rest →
    step s = .next (settle { beginTurn s with ctrl := { s.ctrl with
      shift := some c, txq := rest, raw := { s.ctrl.raw with activity := true } } })

/-- At most one of S_POP, S_XFER and S_ABORT is enabled in any state, and where none is, CTRL has no step: its turn
changes nothing (43_i2c_fsm.md R422, R424; log entry 13). -/
def Obligations.AtMostOneControllerStep : Prop :=
  ∀ s : State,
    ¬ (popEnabled s = true ∧ xferReady s = true) ∧ ¬ (popEnabled s = true ∧ abortEnabled s = true) ∧
    ¬ (xferReady s = true ∧ abortEnabled s = true) ∧
    (nextTurn s = .ctrl → popEnabled s = false → xferReady s = false → abortEnabled s = false →
      step s = .next (beginTurn s))

/-- A command waits, and nothing changes, while the controller is disabled or held in reset, an abort is
requested, the command is not in hand, SCL is held low, another master or a held SDA blocks the START, or
RXQ is full with the hold enabled (43_i2c_fsm.md R429, R430, R426). That a command whose guard is false is a
step that changes nothing is the model's form of "not enabled" (log entry 14). -/
def Obligations.CommandsWait : Prop :=
  ∀ (c : Cmd) (s : State),
    (s.ctrl.icEn = false ∨ s.resets.reset.getLsbD 3 = true ∨ s.i2c.enable.abort = true ∨
      s.ctrl.shift ≠ some c ∨ s.wires.envSclLow = true ∨
      (s.ctrl.owned = false ∧ (s.wires.otherBusy = true ∨ s.wires.envSdaLow = true)) ∨
      (c.cmd = true ∧ s.i2c.con.rxFifoFullHldCtrl = true ∧ s.ctrl.rxq.length = 16)) →
    exec (instrOfCmd c) s = .next s

/-- A write command on a free bus whose address and byte are acknowledged: START, the address byte, the byte and,
where it asks for one, STOP; the bus stays held where it does not (43_i2c_fsm.md R429, R430, R431, R435).
It speaks of CMDW.W, CMDW.W.STOP, CMDW.W.RESTART and CMDW.W.RESTART.STOP. -/
def Obligations.WriteOnFreeBus : Prop :=
  ∀ (c : Cmd) (s : State) (rest : List Answer), CommandInHand c s → BusFree s → c.cmd = false →
    s.script.answers = .ack :: .ack :: rest →
    ∃ seg, exec (instrOfCmd c) s = .next { s with
      trace := s.trace ++ onBus ([.start, .addr (addressByte s 0#1) .ack, .tx c.dat .ack] ++
        (if c.stop then [.stop] else []))
      ctrl := { s.ctrl with
        owned := !c.stop, dir := .write, shift := none, segments := seg
        raw := { s.ctrl.raw with
          startDet := true, stopDet := c.stop || s.ctrl.raw.stopDet } }
      script := { s.script with answers := rest } }

/-- A read command on a free bus whose address is acknowledged: START, the address byte, the byte received and,
where it asks for one, the ACK slot as MNACK and STOP; the byte enters RXQ, or RX_OVER is set where RXQ is
full (43_i2c_fsm.md R429, R430, R433, R435, R427). It speaks of CMDW.R, CMDW.R.STOP, CMDW.R.RESTART and
CMDW.R.RESTART.STOP. -/
def Obligations.ReadOnFreeBus : Prop :=
  ∀ (c : Cmd) (s : State) (d : Byte) (rest : List Answer) (bytes : List Byte),
    CommandInHand c s → BusFree s → c.cmd = true →
    s.script.answers = .ack :: rest → s.script.bytes = d :: bytes →
    ∃ seg, exec (instrOfCmd c) s = .next { s with
      trace := s.trace ++ onBus ([.start, .addr (addressByte s 1#1) .ack, .rx d] ++
        (if c.stop then [.mnack, .stop] else []))
      ctrl := { s.ctrl with
        owned := !c.stop, dir := .read, shift := none, segments := seg, rxAckPending := !c.stop
        rxq := if s.ctrl.rxq.length < 16 then s.ctrl.rxq ++ [d] else s.ctrl.rxq
        raw := { s.ctrl.raw with
          startDet := true, stopDet := c.stop || s.ctrl.raw.stopDet
          rxOver := s.ctrl.raw.rxOver || decide (16 ≤ s.ctrl.rxq.length) } }
      script := { s.script with answers := rest, bytes := bytes } }

/-- A command that goes on in the direction of the held bus, with no RESTART: a write sends its byte, a read first
acknowledges the byte before it (43_i2c_fsm.md R429, R431, R433, R427). -/
def Obligations.CommandGoesOnHeldBus : Prop :=
  ∀ (c : Cmd) (s : State), CommandInHand c s → s.ctrl.owned = true → c.restart = false →
    (∀ rest, c.cmd = false → s.ctrl.dir = .write → s.ctrl.rxAckPending = false →
      s.script.answers = .ack :: rest →
      ∃ seg, exec (instrOfCmd c) s = .next { s with
        trace := s.trace ++ onBus ([.tx c.dat .ack] ++ (if c.stop then [.stop] else []))
        ctrl := { s.ctrl with
          owned := !c.stop, shift := none, segments := seg
          raw := { s.ctrl.raw with stopDet := c.stop || s.ctrl.raw.stopDet } }
        script := { s.script with answers := rest } }) ∧
    (∀ d bytes, c.cmd = true → s.ctrl.dir = .read → s.ctrl.rxAckPending = true →
      s.script.bytes = d :: bytes →
      ∃ seg, exec (instrOfCmd c) s = .next { s with
        trace := s.trace ++ onBus ([.mack, .rx d] ++ (if c.stop then [.mnack, .stop] else []))
        ctrl := { s.ctrl with
          owned := !c.stop, shift := none, segments := seg, rxAckPending := !c.stop
          rxq := if s.ctrl.rxq.length < 16 then s.ctrl.rxq ++ [d] else s.ctrl.rxq
          raw := { s.ctrl.raw with
            stopDet := c.stop || s.ctrl.raw.stopDet
            rxOver := s.ctrl.raw.rxOver || decide (16 ≤ s.ctrl.rxq.length) } }
        script := { s.script with bytes := bytes } })

/-- A command with RESTART, or against the direction of the held bus: the pending ACK slot as MNACK, RESTART
(STOP and START where restarts are disabled), the address byte again, then the byte sent or received
(43_i2c_fsm.md R432, R427, R431, R433). -/
def Obligations.CommandRestartsHeldBus : Prop :=
  ∀ (c : Cmd) (s : State) (rest : List Answer), CommandInHand c s → s.ctrl.owned = true →
    let opening : List BusEvent := (if s.ctrl.rxAckPending then [.mnack] else []) ++
      (if s.i2c.con.restartEn then [.restart] else [.stop, .start])
    (c.cmd = false → (c.restart = true ∨ s.ctrl.dir = .read) →
      s.script.answers = .ack :: .ack :: rest →
      ∃ seg, exec (instrOfCmd c) s = .next { s with
        trace := s.trace ++ onBus (opening ++ [.addr (addressByte s 0#1) .ack, .tx c.dat .ack] ++
          (if c.stop then [.stop] else []))
        ctrl := { s.ctrl with
          owned := !c.stop, dir := .write, shift := none, segments := seg, rxAckPending := false
          raw := { s.ctrl.raw with
            startDet := true
            stopDet := c.stop || !s.i2c.con.restartEn || s.ctrl.raw.stopDet } }
        script := { s.script with answers := rest } }) ∧
    (∀ d bytes, c.cmd = true → (c.restart = true ∨ s.ctrl.dir = .write) →
      s.script.answers = .ack :: rest → s.script.bytes = d :: bytes →
      ∃ seg, exec (instrOfCmd c) s = .next { s with
        trace := s.trace ++ onBus (opening ++ [.addr (addressByte s 1#1) .ack, .rx d] ++
          (if c.stop then [.mnack, .stop] else []))
        ctrl := { s.ctrl with
          owned := !c.stop, dir := .read, shift := none, segments := seg, rxAckPending := !c.stop
          rxq := if s.ctrl.rxq.length < 16 then s.ctrl.rxq ++ [d] else s.ctrl.rxq
          raw := { s.ctrl.raw with
            startDet := true
            stopDet := c.stop || !s.i2c.con.restartEn || s.ctrl.raw.stopDet
            rxOver := s.ctrl.raw.rxOver || decide (16 ≤ s.ctrl.rxq.length) } }
        script := { s.script with answers := rest, bytes := bytes } })

/-- The aborts of a command (43_i2c_fsm.md R434, 60_exceptions.md R606): a NACK of the address sets cause bit 0, of
a data byte bit 3, and the transfer ends with STOP; a loss sets bit 12, sends no STOP and leaves the bus to
the winner. TXQ is flushed and held, TX_FLUSH_CNT counts it, TX_ABRT is set. First on a free bus; then on a
held bus, of the byte of a write that goes on (vectors F9, F12), and of the address and of the byte after a
restart (R432, R427). -/
def Obligations.AbortsOnFreeBus : Prop :=
  ∀ (c : Cmd) (s : State) (rest : List Answer), CommandInHand c s →
    let d : Dir := if c.cmd then .read else .write
    let a := addressByte s (if c.cmd then 1#1 else 0#1)
    let aborts (k : Nat) (evs : List BusEvent) (stop : Bool) : Prop :=
      ∃ seg, exec (instrOfCmd c) s = .next (afterAbort k evs stop d rest seg s)
    let addressed (opening : List BusEvent) : Prop :=
      (s.script.answers = .nack :: rest → aborts 0 (opening ++ [.addr a .nack, .stop]) true) ∧
      (s.script.answers = .lost :: rest → aborts 12 (opening ++ [.addr a .lost]) false) ∧
      (c.cmd = false → s.script.answers = .ack :: .nack :: rest →
        aborts 3 (opening ++ [.addr a .ack, .tx c.dat .nack, .stop]) true) ∧
      (c.cmd = false → s.script.answers = .ack :: .lost :: rest →
        aborts 12 (opening ++ [.addr a .ack, .tx c.dat .lost]) false)
    (BusFree s → addressed [.start]) ∧
    (s.ctrl.owned = true → (c.restart = true ∨ s.ctrl.dir ≠ d) →
      addressed ((if s.ctrl.rxAckPending then [.mnack] else []) ++
        (if s.i2c.con.restartEn then [.restart] else [.stop, .start]))) ∧
    (s.ctrl.owned = true → c.restart = false → c.cmd = false → s.ctrl.dir = .write →
      s.ctrl.rxAckPending = false →
      (s.script.answers = .nack :: rest → aborts 3 [.tx c.dat .nack, .stop] true) ∧
      (s.script.answers = .lost :: rest → aborts 12 [.tx c.dat .lost] false))

/-- A command performed while the pins do not connect the bus takes no answer and no byte of the environment's
script, and its events carry `wired` = false (43_i2c_fsm.md R446). -/
def Obligations.UnwiredCommandIgnoresScript : Prop :=
  ∀ (c : Cmd) (s : State), wired s = false → xferEnabled c s = true →
    ∃ t evs, exec (instrOfCmd c) s = .next t ∧ t.script = s.script ∧ evs ≠ [] ∧
      t.trace = s.trace ++ evs ∧ ∀ e ∈ evs, e.wired = false

/-- S_ABORT, exactly under its guard: a pending ACK slot as MNACK, STOP where the bus is held, cause bit 16, the
flush, TX_ABRT, and the request cleared; it waits for nothing on the wires (43_i2c_fsm.md R450,
60_exceptions.md R606). -/
def Obligations.UserAbortStep : Prop :=
  (∀ s : State, abortEnabled s = true ↔
    (s.ctrl.icEn = true ∧ s.resets.reset.getLsbD 3 = false ∧ s.i2c.enable.abort = true)) ∧
  ∀ s : State, nextTurn s = .ctrl → s.ctrl.icEn = true → s.resets.reset.getLsbD 3 = false →
    s.i2c.enable.abort = true →
    ∃ seg, step s = .next (settle { beginTurn s with
      i2c := { s.i2c with
        abrtSource := s.i2c.abrtSource ||| BitVec.twoPow 17 16
        txFlushCnt := BitVec.ofNat 9 s.ctrl.txq.length
        enable := { s.i2c.enable with abort := false } }
      ctrl := { s.ctrl with
        txq := [], shift := none, owned := false, rxAckPending := false, flushHold := true
        raw := { s.ctrl.raw with
          txAbrt := true, stopDet := s.ctrl.owned || s.ctrl.raw.stopDet }
        segments := seg }
      trace := s.trace ++ ((if s.ctrl.rxAckPending then [BusEvent.mnack] else []) ++
        (if s.ctrl.owned then [BusEvent.stop] else [])).map (fun e => ⟨e, wired s⟩) })

/-! ### The environment -/

/-- The six steps of BUSENV, each under its guard, and no step where the guard fails (43_i2c_fsm.md R440; `b` is the
state whose turn has come, which a turn with no enabled step leaves, log entry 13). -/
def Obligations.EnvironmentSteps : Prop :=
  ∀ s : State,
    let b := beginTurn s
    (nextTurn s = .env .eStart →
      step s = .next
        (if s.ctrl.owned = false ∧ s.wires.otherBusy = false ∧ s.wires.envSdaLow = false ∧
            s.wires.envSclLow = false
         then settle { b with
           wires := { s.wires with otherBusy := true }
           trace := s.trace ++ [⟨.envStart, wired s⟩]
           ctrl := { s.ctrl with raw := { s.ctrl.raw with
             startDet := s.ctrl.icEn || s.ctrl.raw.startDet } } }
         else b)) ∧
    (nextTurn s = .env .eStop →
      step s = .next
        (if s.wires.otherBusy = true ∧ s.ctrl.owned = false
         then settle { b with
           wires := { s.wires with otherBusy := false }
           trace := s.trace ++ [⟨.envStop, wired s⟩]
           ctrl := { s.ctrl with raw := { s.ctrl.raw with
             stopDet := s.ctrl.icEn || s.ctrl.raw.stopDet } } }
         else b)) ∧
    (nextTurn s = .env .eSclLow →
      step s = .next (settle { b with wires := { s.wires with envSclLow := true } })) ∧
    (nextTurn s = .env .eSclFree →
      step s = .next (settle { b with wires := { s.wires with envSclLow := false } })) ∧
    (nextTurn s = .env .eSdaLow →
      step s = .next
        (if s.ctrl.owned = false then settle { b with wires := { s.wires with envSdaLow := true } }
         else b)) ∧
    (nextTurn s = .env .eSdaFree →
      step s = .next (settle { b with wires := { s.wires with envSdaLow := false } }))

/-! ### The HOST -/

/-- The HOST's statements that make no access, and its end: LET, IF, GOTO, RETURN and HALT (30_encoding.md R190);
a HOST that has ended takes no step (60_exceptions.md R613), which in the model is a turn that only takes the
turn (log entry 13). That RETURN ends the whole program is the model's choice (log entry 30). -/
def Obligations.HostLocalStatements : Prop :=
  ∀ s : State, nextTurn s = .host →
    let b := beginTurn s
    (s.host.halted = true → step s = .next b) ∧
    (s.host.halted = false →
      (∀ t e, s.host.prog[s.host.pc]? = some (.letTemp t e) →
        step s = .next (settle { b with host := { b.host with
          pc := s.host.pc + 1
          temps := tempSet s.host.temps t (evalExpr s.host.temps e) } })) ∧
      (∀ c l, s.host.prog[s.host.pc]? = some (.ifGoto c l) →
        step s = .next (settle { b with host := { b.host with
          pc := if evalCond s.host.temps c then l else s.host.pc + 1 } })) ∧
      (∀ l, s.host.prog[s.host.pc]? = some (.goto l) →
        step s = .next (settle { b with host := { b.host with pc := l } })) ∧
      (∀ e, s.host.prog[s.host.pc]? = some (.ret e) →
        step s = .next (settle { b with host := { b.host with
          halted := true, result := some (evalExpr s.host.temps e) } })) ∧
      (s.host.prog[s.host.pc]? = some .halt →
        step s = .next (settle { b with host := { b.host with halted := true } })))

/-! ### Timing -/

/-- A valid divider passes the admission check: in a master, 7-bit configuration whose counts, spike length and
hold are those values as the registers store them (41_i2c_config.md R342, R330). -/
def Obligations.ValidDividerIsAdmitted : Prop :=
  ∀ (F f : Nat) (r : I2cRegs), (divider F f).valid = true →
    r.con.masterMode = true → r.con.slaveDisable = true → r.con.tenBitAddrMaster = false →
    r.tar.special = false →
    hcntEff r = legalHcnt (BitVec.ofNat 32 (divider F f).hcnt) →
    lcntEff r = legalLcnt (BitVec.ofNat 32 (divider F f).lcnt) →
    r.fsSpklen = legalSpklen (BitVec.ofNat 32 (divider F f).spklen) →
    r.sdaTxHold = BitVec.ofNat 16 (divider F f).hold →
    admissionFailure r = none

/-- For a 400 kHz target the divider is valid and its counts meet DOC's timing property, over exact rationals, for
every clock that is a multiple of 1 kHz from 7 MHz to 140 MHz (41_i2c_config.md R342, R343). -/
def Obligations.DividerMeetsTiming : Prop :=
  ∀ k : Nat, 7000 ≤ k → k ≤ 140000 →
    let d := divider (1000 * k) 400000
    let F : ℚ := 1000 * (k : ℚ)
    d.valid = true ∧
    |((d.hcnt : ℚ) + (d.lcnt : ℚ)) - F / 400000| ≤ 1 ∧
    (d.hcnt : ℚ) / F ≥ 6 / 10000000 ∧ (d.lcnt : ℚ) / F ≥ 13 / 10000000 ∧
    ∀ r : I2cRegs, (hcntEff r).toNat = d.hcnt → (lcntEff r).toNat = d.lcnt →
      timingOk (1000 * k) r = true

/-- A cycle of the timing refinement changes the cycle-level state alone (10_state.md R66,
70_reset_and_hazards.md R730; `segments`, `sdaLine` and `sdaDue` are the model's own, log entry 17), as follows.
In HIGH nothing counts while SCL, which the controller then releases, reads 0 (R730, R735). Otherwise `cnt`
counts down, and where it has run out the next segment begins, but for START_HOLD after an IDLE while the SCL or
SDA wire reads 0 or another master holds the bus (R731; the winner of a byte lost after that START does not
count, log entry 17), or, where none is left, LOW with its count
stopped while the bus is held (R735) and IDLE while it is not. While `cnt` counts, SDA changes in LOW alone,
where the change that is due takes place. Where SCL falls, the controller changes SDA after IC_SDA_TX_HOLD
cycles; in HIGH SDA carries the bit (R732). The segments of each event are the sequences of R731, a phase to
which it gives no duration lasting a free number of cycles, and one SCL period of R732 for each bit of R172:
bytes most significant bit first, the ACK slot the receiver's, a lost byte's periods open. A command
that is performed, and S_ABORT, queue the segments of the events they emit, in order. Within these cycles the
controller drives SCL low in LOW alone, and SDA low in START_HOLD and STOP_SETUP, released in IDLE and BUS_FREE
and as the bit says in LOW and HIGH (R730, R731); and in the HIGH of a bit, on a connected bus that BUSENV does
not hold, SDA reads 0 where someone pulls it low and 1 where no one does, which is what the controller samples
(R172, R732). -/
def Obligations.ClockCycleTouchesOnlyTiming : Prop :=
  (∀ s : State, nextTurn s = .clk → ∃ p n g y z,
    step s = .next { beginTurn s with
      ctrl := { s.ctrl with phase := p, cnt := n, segments := g, sdaLine := y, sdaDue := z }
      draws := (beginTurn s).draws + 1 } ∧
    (let stretched : Prop := s.ctrl.phase = .high ∧ cycleSclLevel (beginTurn s) = false
     let blocked : Prop :=
       (s.ctrl.phase = .idle ∧ s.ctrl.segments.head?.map Segment.phase = some .startHold) ∧
       (cycleSclLevel (beginTurn s) = false ∨ cycleSdaLevel (beginTurn s) = false ∨ anotherHolds s = true)
     (stretched → p = s.ctrl.phase ∧ n = s.ctrl.cnt ∧ g = s.ctrl.segments ∧
       y = s.ctrl.sdaLine ∧ z = s.ctrl.sdaDue) ∧
     (¬ stretched → 1 < s.ctrl.cnt.toNat →
       p = s.ctrl.phase ∧ n.toNat = s.ctrl.cnt.toNat - 1 ∧ g = s.ctrl.segments ∧
       (s.ctrl.phase ≠ .low ∨ s.ctrl.sdaDue = none → y = s.ctrl.sdaLine ∧ z = s.ctrl.sdaDue) ∧
       ∀ k b, s.ctrl.phase = .low → s.ctrl.sdaDue = some ⟨k, b⟩ →
         (1 < k → y = s.ctrl.sdaLine ∧ z = some ⟨k - 1, b⟩) ∧
         (k ≤ 1 → y = ⟨b, s.ctrl.sdaLine.targetLow⟩ ∧ z = none)) ∧
     (s.ctrl.cnt.toNat ≤ 1 → blocked → p = s.ctrl.phase ∧ n = s.ctrl.cnt ∧ g = s.ctrl.segments ∧
       y = s.ctrl.sdaLine ∧ z = s.ctrl.sdaDue) ∧
     (¬ stretched → ¬ blocked → s.ctrl.cnt.toNat ≤ 1 → ∀ x rest, s.ctrl.segments = x :: rest →
       p = x.phase ∧ g = rest ∧ (∀ k, x.cycles = some k → n = BitVec.ofNat 16 k) ∧
       (∀ d, x.phase = .low → s.ctrl.phase ≠ .low → x.sda = some d →
         (s.i2c.sdaTxHold = 0 → y.ctrlLow = d.ctrlLow ∧ z = none) ∧
         (s.i2c.sdaTxHold ≠ 0 →
           y.ctrlLow = (sdaNow s.ctrl).ctrlLow ∧ z = some ⟨s.i2c.sdaTxHold.toNat, d.ctrlLow⟩)) ∧
       (∀ a b, x.phase = .high → x.sda = some ⟨some a, some b⟩ → y = ⟨some a, some b⟩ ∧ z = none)) ∧
     (¬ stretched → s.ctrl.cnt.toNat ≤ 1 → s.ctrl.segments = [] →
       p = (if s.ctrl.owned then .low else .idle) ∧ n = 0 ∧ g = []))) ∧
  (∀ h l : Nat,
    let periods (ds : List SdaDrive) : List Segment := (ds.map fun d =>
      [⟨.low, some (l + Config.sclLowExtra), some d⟩, ⟨.high, some (h + Config.sclHighExtra), some d⟩]).flatten
    let bits (b : Byte) : List Bool := (List.range 8).map fun k => b.getLsbD (7 - k)
    let sent (b : Bool) : SdaDrive := ⟨some (!b), some false⟩
    let answered (b : Bool) : SdaDrive := ⟨some false, some (!b)⟩
    (∀ b, eventSegments h l (.addr b .ack) = periods ((bits b).map sent ++ [answered false]) ∧
      eventSegments h l (.addr b .nack) = periods ((bits b).map sent ++ [answered true]) ∧
      eventSegments h l (.addr b .lost) = periods (List.replicate 9 ⟨none, none⟩) ∧
      eventSegments h l (.tx b .ack) = periods ((bits b).map sent ++ [answered false]) ∧
      eventSegments h l (.tx b .nack) = periods ((bits b).map sent ++ [answered true]) ∧
      eventSegments h l (.tx b .lost) = periods (List.replicate 9 ⟨none, none⟩) ∧
      eventSegments h l (.rx b) = periods ((bits b).map answered)) ∧
    eventSegments h l .mack = periods [sent false] ∧ eventSegments h l .mnack = periods [sent true] ∧
    eventSegments h l .start = [⟨.idle, none, none⟩, ⟨.startHold, some h, none⟩] ∧
    eventSegments h l .restart =
      [⟨.low, none, some (sent true)⟩, ⟨.high, some h, some (sent true)⟩, ⟨.startHold, some h, none⟩] ∧
    eventSegments h l .stop = [⟨.low, none, some (sent false)⟩, ⟨.stopSetup, some h, none⟩,
      ⟨.busFree, some l, none⟩, ⟨.idle, none, none⟩]) ∧
  (∀ (c : Cmd) (s : State), xferEnabled c s = true → ∃ t evs,
    exec (instrOfCmd c) s = .next t ∧
    t.trace = s.trace ++ evs.map (fun e => ⟨e, wired s⟩) ∧
    t.ctrl.segments = s.ctrl.segments ++ segmentsOf s evs) ∧
  (∀ s : State, nextTurn s = .ctrl → abortEnabled s = true → ∃ t evs,
    step s = .next t ∧
    t.trace = s.trace ++ evs.map (fun e => ⟨e, wired s⟩) ∧
    t.ctrl.segments = s.ctrl.segments ++ segmentsOf s evs) ∧
  ∀ s : State,
    let scl := (cycleOutputs s).ctrl.sclOe
    let sda := (cycleOutputs s).ctrl.sdaOe
    (∃ w, cycleOutputs s = { s with
      ctrl := { s.ctrl with sclOe := scl, sdaOe := sda }
      wires := { s.wires with envSdaLow := w } } ∧ (s.wires.envSdaLow = true → w = true)) ∧
    (scl = true ↔ s.ctrl.phase = .low) ∧
    (s.ctrl.phase = .startHold ∨ s.ctrl.phase = .stopSetup → sda = true) ∧
    (s.ctrl.phase = .idle ∨ s.ctrl.phase = .busFree → sda = false) ∧
    (∀ a, s.ctrl.phase = .low ∨ s.ctrl.phase = .high → s.ctrl.sdaLine.ctrlLow = some a → sda = a) ∧
    ∀ a b, s.ctrl.phase = .high → s.ctrl.sdaLine = ⟨some a, some b⟩ → wired s = true →
      s.wires.envSdaLow = false → cycleSdaLevel s = !(a || b) ∧ sdaSample s = !(a || b)

end
end

