-- ==== Sys2Proof/Laws/State.lean ====
section
/-! SUPPORT. One lemma per field of State for each named update: which field it writes, and that it leaves the
others. Later proofs rewrite with these and unfold no record update. -/

namespace Sys2Proof.Laws

open Sys2Proof.Machine

@[simp] theorem refuse_i2c (r : Reason) (s : State) : (refuse r s).i2c = s.i2c := rfl
@[simp] theorem refuse_ctrl (r : Reason) (s : State) : (refuse r s).ctrl = s.ctrl := rfl
@[simp] theorem refuse_resets (r : Reason) (s : State) : (refuse r s).resets = s.resets := rfl
@[simp] theorem refuse_io (r : Reason) (s : State) : (refuse r s).io = s.io := rfl
@[simp] theorem refuse_pads (r : Reason) (s : State) : (refuse r s).pads = s.pads := rfl
@[simp] theorem refuse_sio (r : Reason) (s : State) : (refuse r s).sio = s.sio := rfl
@[simp] theorem refuse_wires (r : Reason) (s : State) : (refuse r s).wires = s.wires := rfl
@[simp] theorem refuse_trace (r : Reason) (s : State) : (refuse r s).trace = s.trace := rfl
@[simp] theorem refuse_marks (r : Reason) (s : State) :
    (refuse r s).marks = { s.marks with refused := s.marks.refused ++ [r] } := rfl
@[simp] theorem refuse_host (r : Reason) (s : State) : (refuse r s).host = s.host := rfl
@[simp] theorem refuse_script (r : Reason) (s : State) : (refuse r s).script = s.script := rfl
@[simp] theorem refuse_draws (r : Reason) (s : State) : (refuse r s).draws = s.draws := rfl

@[simp] theorem respond_i2c (v : Word) (s : State) : (respond v s).i2c = s.i2c := rfl
@[simp] theorem respond_ctrl (v : Word) (s : State) : (respond v s).ctrl = s.ctrl := rfl
@[simp] theorem respond_resets (v : Word) (s : State) : (respond v s).resets = s.resets := rfl
@[simp] theorem respond_io (v : Word) (s : State) : (respond v s).io = s.io := rfl
@[simp] theorem respond_pads (v : Word) (s : State) : (respond v s).pads = s.pads := rfl
@[simp] theorem respond_sio (v : Word) (s : State) : (respond v s).sio = s.sio := rfl
@[simp] theorem respond_wires (v : Word) (s : State) : (respond v s).wires = s.wires := rfl
@[simp] theorem respond_trace (v : Word) (s : State) : (respond v s).trace = s.trace := rfl
@[simp] theorem respond_marks (v : Word) (s : State) : (respond v s).marks = s.marks := rfl
@[simp] theorem respond_host (v : Word) (s : State) :
    (respond v s).host = { s.host with readData := some v } := rfl
@[simp] theorem respond_script (v : Word) (s : State) : (respond v s).script = s.script := rfl
@[simp] theorem respond_draws (v : Word) (s : State) : (respond v s).draws = s.draws := rfl

@[simp] theorem respondMasked_i2c (d v : Word) (s : State) : (respondMasked d v s).i2c = s.i2c := rfl
@[simp] theorem respondMasked_ctrl (d v : Word) (s : State) : (respondMasked d v s).ctrl = s.ctrl := rfl
@[simp] theorem respondMasked_resets (d v : Word) (s : State) :
    (respondMasked d v s).resets = s.resets := rfl
@[simp] theorem respondMasked_io (d v : Word) (s : State) : (respondMasked d v s).io = s.io := rfl
@[simp] theorem respondMasked_pads (d v : Word) (s : State) : (respondMasked d v s).pads = s.pads := rfl
@[simp] theorem respondMasked_sio (d v : Word) (s : State) : (respondMasked d v s).sio = s.sio := rfl
@[simp] theorem respondMasked_wires (d v : Word) (s : State) :
    (respondMasked d v s).wires = s.wires := rfl
@[simp] theorem respondMasked_trace (d v : Word) (s : State) :
    (respondMasked d v s).trace = s.trace := rfl
@[simp] theorem respondMasked_marks (d v : Word) (s : State) :
    (respondMasked d v s).marks = s.marks := rfl
@[simp] theorem respondMasked_host (d v : Word) (s : State) :
    (respondMasked d v s).host = { s.host with
      readData := some ((v &&& d) ||| (Config.freeWord s.draws &&& ~~~d)) } := rfl
@[simp] theorem respondMasked_script (d v : Word) (s : State) :
    (respondMasked d v s).script = s.script := rfl
@[simp] theorem respondMasked_draws (d v : Word) (s : State) :
    (respondMasked d v s).draws = s.draws + 1 := rfl

@[simp] theorem setRaw_i2c (s : State) (r : RawBits) : (setRaw s r).i2c = s.i2c := rfl
@[simp] theorem setRaw_ctrl (s : State) (r : RawBits) :
    (setRaw s r).ctrl = { s.ctrl with raw := r } := rfl
@[simp] theorem setRaw_resets (s : State) (r : RawBits) : (setRaw s r).resets = s.resets := rfl
@[simp] theorem setRaw_io (s : State) (r : RawBits) : (setRaw s r).io = s.io := rfl
@[simp] theorem setRaw_pads (s : State) (r : RawBits) : (setRaw s r).pads = s.pads := rfl
@[simp] theorem setRaw_sio (s : State) (r : RawBits) : (setRaw s r).sio = s.sio := rfl
@[simp] theorem setRaw_wires (s : State) (r : RawBits) : (setRaw s r).wires = s.wires := rfl
@[simp] theorem setRaw_trace (s : State) (r : RawBits) : (setRaw s r).trace = s.trace := rfl
@[simp] theorem setRaw_marks (s : State) (r : RawBits) : (setRaw s r).marks = s.marks := rfl
@[simp] theorem setRaw_host (s : State) (r : RawBits) : (setRaw s r).host = s.host := rfl
@[simp] theorem setRaw_script (s : State) (r : RawBits) : (setRaw s r).script = s.script := rfl
@[simp] theorem setRaw_draws (s : State) (r : RawBits) : (setRaw s r).draws = s.draws := rfl

@[simp] theorem setStartDet_i2c (s : State) : (setStartDet s).i2c = s.i2c := rfl
@[simp] theorem setStartDet_ctrl (s : State) :
    (setStartDet s).ctrl = { s.ctrl with raw := { s.ctrl.raw with startDet := true } } := rfl
@[simp] theorem setStartDet_resets (s : State) : (setStartDet s).resets = s.resets := rfl
@[simp] theorem setStartDet_io (s : State) : (setStartDet s).io = s.io := rfl
@[simp] theorem setStartDet_pads (s : State) : (setStartDet s).pads = s.pads := rfl
@[simp] theorem setStartDet_sio (s : State) : (setStartDet s).sio = s.sio := rfl
@[simp] theorem setStartDet_wires (s : State) : (setStartDet s).wires = s.wires := rfl
@[simp] theorem setStartDet_trace (s : State) : (setStartDet s).trace = s.trace := rfl
@[simp] theorem setStartDet_marks (s : State) : (setStartDet s).marks = s.marks := rfl
@[simp] theorem setStartDet_host (s : State) : (setStartDet s).host = s.host := rfl
@[simp] theorem setStartDet_script (s : State) : (setStartDet s).script = s.script := rfl
@[simp] theorem setStartDet_draws (s : State) : (setStartDet s).draws = s.draws := rfl

@[simp] theorem setStopDet_i2c (s : State) : (setStopDet s).i2c = s.i2c := rfl
@[simp] theorem setStopDet_ctrl (s : State) :
    (setStopDet s).ctrl = { s.ctrl with raw := { s.ctrl.raw with stopDet := true } } := rfl
@[simp] theorem setStopDet_resets (s : State) : (setStopDet s).resets = s.resets := rfl
@[simp] theorem setStopDet_io (s : State) : (setStopDet s).io = s.io := rfl
@[simp] theorem setStopDet_pads (s : State) : (setStopDet s).pads = s.pads := rfl
@[simp] theorem setStopDet_sio (s : State) : (setStopDet s).sio = s.sio := rfl
@[simp] theorem setStopDet_wires (s : State) : (setStopDet s).wires = s.wires := rfl
@[simp] theorem setStopDet_trace (s : State) : (setStopDet s).trace = s.trace := rfl
@[simp] theorem setStopDet_marks (s : State) : (setStopDet s).marks = s.marks := rfl
@[simp] theorem setStopDet_host (s : State) : (setStopDet s).host = s.host := rfl
@[simp] theorem setStopDet_script (s : State) : (setStopDet s).script = s.script := rfl
@[simp] theorem setStopDet_draws (s : State) : (setStopDet s).draws = s.draws := rfl

@[simp] theorem updI2c_i2c (f : I2cRegs → I2cRegs) (s : State) : (updI2c f s).i2c = f s.i2c := rfl
@[simp] theorem updI2c_ctrl (f : I2cRegs → I2cRegs) (s : State) : (updI2c f s).ctrl = s.ctrl := rfl
@[simp] theorem updI2c_resets (f : I2cRegs → I2cRegs) (s : State) :
    (updI2c f s).resets = s.resets := rfl
@[simp] theorem updI2c_io (f : I2cRegs → I2cRegs) (s : State) : (updI2c f s).io = s.io := rfl
@[simp] theorem updI2c_pads (f : I2cRegs → I2cRegs) (s : State) : (updI2c f s).pads = s.pads := rfl
@[simp] theorem updI2c_sio (f : I2cRegs → I2cRegs) (s : State) : (updI2c f s).sio = s.sio := rfl
@[simp] theorem updI2c_wires (f : I2cRegs → I2cRegs) (s : State) : (updI2c f s).wires = s.wires := rfl
@[simp] theorem updI2c_trace (f : I2cRegs → I2cRegs) (s : State) : (updI2c f s).trace = s.trace := rfl
@[simp] theorem updI2c_marks (f : I2cRegs → I2cRegs) (s : State) : (updI2c f s).marks = s.marks := rfl
@[simp] theorem updI2c_host (f : I2cRegs → I2cRegs) (s : State) : (updI2c f s).host = s.host := rfl
@[simp] theorem updI2c_script (f : I2cRegs → I2cRegs) (s : State) :
    (updI2c f s).script = s.script := rfl
@[simp] theorem updI2c_draws (f : I2cRegs → I2cRegs) (s : State) : (updI2c f s).draws = s.draws := rfl

@[simp] theorem storeEnable_i2c (e a b : Bool) (s : State) :
    (storeEnable e a b s).i2c = { s.i2c with enable :=
      { enable := e, abort := a || s.i2c.enable.abort, txCmdBlock := b } } := rfl
@[simp] theorem storeEnable_ctrl (e a b : Bool) (s : State) : (storeEnable e a b s).ctrl = s.ctrl := rfl
@[simp] theorem storeEnable_resets (e a b : Bool) (s : State) :
    (storeEnable e a b s).resets = s.resets := rfl
@[simp] theorem storeEnable_io (e a b : Bool) (s : State) : (storeEnable e a b s).io = s.io := rfl
@[simp] theorem storeEnable_pads (e a b : Bool) (s : State) : (storeEnable e a b s).pads = s.pads := rfl
@[simp] theorem storeEnable_sio (e a b : Bool) (s : State) : (storeEnable e a b s).sio = s.sio := rfl
@[simp] theorem storeEnable_wires (e a b : Bool) (s : State) :
    (storeEnable e a b s).wires = s.wires := rfl
@[simp] theorem storeEnable_trace (e a b : Bool) (s : State) :
    (storeEnable e a b s).trace = s.trace := rfl
@[simp] theorem storeEnable_marks (e a b : Bool) (s : State) :
    (storeEnable e a b s).marks = s.marks := rfl
@[simp] theorem storeEnable_host (e a b : Bool) (s : State) : (storeEnable e a b s).host = s.host := rfl
@[simp] theorem storeEnable_script (e a b : Bool) (s : State) :
    (storeEnable e a b s).script = s.script := rfl
@[simp] theorem storeEnable_draws (e a b : Bool) (s : State) :
    (storeEnable e a b s).draws = s.draws := rfl

@[simp] theorem disableCtrl_i2c (s : State) : (disableCtrl s).i2c = s.i2c := rfl
@[simp] theorem disableCtrl_ctrl (s : State) :
    (disableCtrl s).ctrl = { s.ctrl with
      icEn := false, txq := [], rxq := [], sdaOe := false, sclOe := false
      raw := { s.ctrl.raw with
        activity := false, rxUnder := false, rxOver := false, txOver := false } } := rfl
@[simp] theorem disableCtrl_resets (s : State) : (disableCtrl s).resets = s.resets := rfl
@[simp] theorem disableCtrl_io (s : State) : (disableCtrl s).io = s.io := rfl
@[simp] theorem disableCtrl_pads (s : State) : (disableCtrl s).pads = s.pads := rfl
@[simp] theorem disableCtrl_sio (s : State) : (disableCtrl s).sio = s.sio := rfl
@[simp] theorem disableCtrl_wires (s : State) : (disableCtrl s).wires = s.wires := rfl
@[simp] theorem disableCtrl_trace (s : State) : (disableCtrl s).trace = s.trace := rfl
@[simp] theorem disableCtrl_marks (s : State) : (disableCtrl s).marks = s.marks := rfl
@[simp] theorem disableCtrl_host (s : State) : (disableCtrl s).host = s.host := rfl
@[simp] theorem disableCtrl_script (s : State) : (disableCtrl s).script = s.script := rfl
@[simp] theorem disableCtrl_draws (s : State) : (disableCtrl s).draws = s.draws := rfl

@[simp] theorem setPinCtrl_i2c (s : State) (n : Nat) (c : PinCtrl) :
    (setPinCtrl s n c).i2c = s.i2c := rfl
@[simp] theorem setPinCtrl_ctrl (s : State) (n : Nat) (c : PinCtrl) :
    (setPinCtrl s n c).ctrl = s.ctrl := rfl
@[simp] theorem setPinCtrl_resets (s : State) (n : Nat) (c : PinCtrl) :
    (setPinCtrl s n c).resets = s.resets := rfl
@[simp] theorem setPinCtrl_io (s : State) (n : Nat) (c : PinCtrl) :
    (setPinCtrl s n c).io = { s.io with ctrl := s.io.ctrl.setIfInBounds n c } := rfl
@[simp] theorem setPinCtrl_pads (s : State) (n : Nat) (c : PinCtrl) :
    (setPinCtrl s n c).pads = s.pads := rfl
@[simp] theorem setPinCtrl_sio (s : State) (n : Nat) (c : PinCtrl) :
    (setPinCtrl s n c).sio = s.sio := rfl
@[simp] theorem setPinCtrl_wires (s : State) (n : Nat) (c : PinCtrl) :
    (setPinCtrl s n c).wires = s.wires := rfl
@[simp] theorem setPinCtrl_trace (s : State) (n : Nat) (c : PinCtrl) :
    (setPinCtrl s n c).trace = s.trace := rfl
@[simp] theorem setPinCtrl_marks (s : State) (n : Nat) (c : PinCtrl) :
    (setPinCtrl s n c).marks = s.marks := rfl
@[simp] theorem setPinCtrl_host (s : State) (n : Nat) (c : PinCtrl) :
    (setPinCtrl s n c).host = s.host := rfl
@[simp] theorem setPinCtrl_script (s : State) (n : Nat) (c : PinCtrl) :
    (setPinCtrl s n c).script = s.script := rfl
@[simp] theorem setPinCtrl_draws (s : State) (n : Nat) (c : PinCtrl) :
    (setPinCtrl s n c).draws = s.draws := rfl

@[simp] theorem setPad_i2c (s : State) (n : Nat) (p : Pad) : (setPad s n p).i2c = s.i2c := rfl
@[simp] theorem setPad_ctrl (s : State) (n : Nat) (p : Pad) : (setPad s n p).ctrl = s.ctrl := rfl
@[simp] theorem setPad_resets (s : State) (n : Nat) (p : Pad) : (setPad s n p).resets = s.resets := rfl
@[simp] theorem setPad_io (s : State) (n : Nat) (p : Pad) : (setPad s n p).io = s.io := rfl
@[simp] theorem setPad_pads (s : State) (n : Nat) (p : Pad) :
    (setPad s n p).pads = { s.pads with pad := s.pads.pad.setIfInBounds n p } := rfl
@[simp] theorem setPad_sio (s : State) (n : Nat) (p : Pad) : (setPad s n p).sio = s.sio := rfl
@[simp] theorem setPad_wires (s : State) (n : Nat) (p : Pad) : (setPad s n p).wires = s.wires := rfl
@[simp] theorem setPad_trace (s : State) (n : Nat) (p : Pad) : (setPad s n p).trace = s.trace := rfl
@[simp] theorem setPad_marks (s : State) (n : Nat) (p : Pad) : (setPad s n p).marks = s.marks := rfl
@[simp] theorem setPad_host (s : State) (n : Nat) (p : Pad) : (setPad s n p).host = s.host := rfl
@[simp] theorem setPad_script (s : State) (n : Nat) (p : Pad) : (setPad s n p).script = s.script := rfl
@[simp] theorem setPad_draws (s : State) (n : Nat) (p : Pad) : (setPad s n p).draws = s.draws := rfl

@[simp] theorem setGpioOut_i2c (x : BitVec 30) (s : State) : (setGpioOut x s).i2c = s.i2c := rfl
@[simp] theorem setGpioOut_ctrl (x : BitVec 30) (s : State) : (setGpioOut x s).ctrl = s.ctrl := rfl
@[simp] theorem setGpioOut_resets (x : BitVec 30) (s : State) :
    (setGpioOut x s).resets = s.resets := rfl
@[simp] theorem setGpioOut_io (x : BitVec 30) (s : State) : (setGpioOut x s).io = s.io := rfl
@[simp] theorem setGpioOut_pads (x : BitVec 30) (s : State) : (setGpioOut x s).pads = s.pads := rfl
@[simp] theorem setGpioOut_sio (x : BitVec 30) (s : State) :
    (setGpioOut x s).sio = { s.sio with gpioOut := x } := rfl
@[simp] theorem setGpioOut_wires (x : BitVec 30) (s : State) : (setGpioOut x s).wires = s.wires := rfl
@[simp] theorem setGpioOut_trace (x : BitVec 30) (s : State) : (setGpioOut x s).trace = s.trace := rfl
@[simp] theorem setGpioOut_marks (x : BitVec 30) (s : State) : (setGpioOut x s).marks = s.marks := rfl
@[simp] theorem setGpioOut_host (x : BitVec 30) (s : State) : (setGpioOut x s).host = s.host := rfl
@[simp] theorem setGpioOut_script (x : BitVec 30) (s : State) :
    (setGpioOut x s).script = s.script := rfl
@[simp] theorem setGpioOut_draws (x : BitVec 30) (s : State) : (setGpioOut x s).draws = s.draws := rfl

@[simp] theorem setGpioOe_i2c (x : BitVec 30) (s : State) : (setGpioOe x s).i2c = s.i2c := rfl
@[simp] theorem setGpioOe_ctrl (x : BitVec 30) (s : State) : (setGpioOe x s).ctrl = s.ctrl := rfl
@[simp] theorem setGpioOe_resets (x : BitVec 30) (s : State) : (setGpioOe x s).resets = s.resets := rfl
@[simp] theorem setGpioOe_io (x : BitVec 30) (s : State) : (setGpioOe x s).io = s.io := rfl
@[simp] theorem setGpioOe_pads (x : BitVec 30) (s : State) : (setGpioOe x s).pads = s.pads := rfl
@[simp] theorem setGpioOe_sio (x : BitVec 30) (s : State) :
    (setGpioOe x s).sio = { s.sio with gpioOe := x } := rfl
@[simp] theorem setGpioOe_wires (x : BitVec 30) (s : State) : (setGpioOe x s).wires = s.wires := rfl
@[simp] theorem setGpioOe_trace (x : BitVec 30) (s : State) : (setGpioOe x s).trace = s.trace := rfl
@[simp] theorem setGpioOe_marks (x : BitVec 30) (s : State) : (setGpioOe x s).marks = s.marks := rfl
@[simp] theorem setGpioOe_host (x : BitVec 30) (s : State) : (setGpioOe x s).host = s.host := rfl
@[simp] theorem setGpioOe_script (x : BitVec 30) (s : State) : (setGpioOe x s).script = s.script := rfl
@[simp] theorem setGpioOe_draws (x : BitVec 30) (s : State) : (setGpioOe x s).draws = s.draws := rfl

@[simp] theorem emitEnv_i2c (ev : BusEvent) (s : State) : (emitEnv ev s).i2c = s.i2c := rfl
@[simp] theorem emitEnv_ctrl (ev : BusEvent) (s : State) : (emitEnv ev s).ctrl = s.ctrl := rfl
@[simp] theorem emitEnv_resets (ev : BusEvent) (s : State) : (emitEnv ev s).resets = s.resets := rfl
@[simp] theorem emitEnv_io (ev : BusEvent) (s : State) : (emitEnv ev s).io = s.io := rfl
@[simp] theorem emitEnv_pads (ev : BusEvent) (s : State) : (emitEnv ev s).pads = s.pads := rfl
@[simp] theorem emitEnv_sio (ev : BusEvent) (s : State) : (emitEnv ev s).sio = s.sio := rfl
@[simp] theorem emitEnv_wires (ev : BusEvent) (s : State) : (emitEnv ev s).wires = s.wires := rfl
@[simp] theorem emitEnv_trace (ev : BusEvent) (s : State) :
    (emitEnv ev s).trace = s.trace ++ [⟨ev, wired s⟩] := rfl
@[simp] theorem emitEnv_marks (ev : BusEvent) (s : State) : (emitEnv ev s).marks = s.marks := rfl
@[simp] theorem emitEnv_host (ev : BusEvent) (s : State) : (emitEnv ev s).host = s.host := rfl
@[simp] theorem emitEnv_script (ev : BusEvent) (s : State) : (emitEnv ev s).script = s.script := rfl
@[simp] theorem emitEnv_draws (ev : BusEvent) (s : State) : (emitEnv ev s).draws = s.draws := rfl

@[simp] theorem emit_i2c (ev : BusEvent) (s : State) : (emit ev s).i2c = s.i2c := rfl
@[simp] theorem emit_ctrl (ev : BusEvent) (s : State) :
    (emit ev s).ctrl = { s.ctrl with segments :=
      s.ctrl.segments ++ eventSegments (hcntEff s.i2c).toNat (lcntEff s.i2c).toNat ev } := rfl
@[simp] theorem emit_resets (ev : BusEvent) (s : State) : (emit ev s).resets = s.resets := rfl
@[simp] theorem emit_io (ev : BusEvent) (s : State) : (emit ev s).io = s.io := rfl
@[simp] theorem emit_pads (ev : BusEvent) (s : State) : (emit ev s).pads = s.pads := rfl
@[simp] theorem emit_sio (ev : BusEvent) (s : State) : (emit ev s).sio = s.sio := rfl
@[simp] theorem emit_wires (ev : BusEvent) (s : State) : (emit ev s).wires = s.wires := rfl
@[simp] theorem emit_trace (ev : BusEvent) (s : State) :
    (emit ev s).trace = s.trace ++ [⟨ev, wired s⟩] := rfl
@[simp] theorem emit_marks (ev : BusEvent) (s : State) : (emit ev s).marks = s.marks := rfl
@[simp] theorem emit_host (ev : BusEvent) (s : State) : (emit ev s).host = s.host := rfl
@[simp] theorem emit_script (ev : BusEvent) (s : State) : (emit ev s).script = s.script := rfl
@[simp] theorem emit_draws (ev : BusEvent) (s : State) : (emit ev s).draws = s.draws := rfl

@[simp] theorem abortEntry_i2c (src : AbortSource) (s : State) :
    (abortEntry src s).i2c = { s.i2c with
      abrtSource := s.i2c.abrtSource ||| (1#17 <<< src.code)
      txFlushCnt := BitVec.ofNat 9 s.ctrl.txq.length } := rfl
@[simp] theorem abortEntry_ctrl (src : AbortSource) (s : State) :
    (abortEntry src s).ctrl = { s.ctrl with
      txq := [], shift := none, owned := false, rxAckPending := false, flushHold := true
      raw := { s.ctrl.raw with txAbrt := true } } := rfl
@[simp] theorem abortEntry_resets (src : AbortSource) (s : State) :
    (abortEntry src s).resets = s.resets := rfl
@[simp] theorem abortEntry_io (src : AbortSource) (s : State) : (abortEntry src s).io = s.io := rfl
@[simp] theorem abortEntry_pads (src : AbortSource) (s : State) :
    (abortEntry src s).pads = s.pads := rfl
@[simp] theorem abortEntry_sio (src : AbortSource) (s : State) : (abortEntry src s).sio = s.sio := rfl
@[simp] theorem abortEntry_wires (src : AbortSource) (s : State) :
    (abortEntry src s).wires = s.wires := rfl
@[simp] theorem abortEntry_trace (src : AbortSource) (s : State) :
    (abortEntry src s).trace = s.trace := rfl
@[simp] theorem abortEntry_marks (src : AbortSource) (s : State) :
    (abortEntry src s).marks = s.marks := rfl
@[simp] theorem abortEntry_host (src : AbortSource) (s : State) :
    (abortEntry src s).host = s.host := rfl
@[simp] theorem abortEntry_script (src : AbortSource) (s : State) :
    (abortEntry src s).script = s.script := rfl
@[simp] theorem abortEntry_draws (src : AbortSource) (s : State) :
    (abortEntry src s).draws = s.draws := rfl

@[simp] theorem clearAbortSource_i2c (s : State) :
    (clearAbortSource s).i2c = { s.i2c with
      abrtSource := 0, txFlushCnt := Config.freeFlushCnt s.draws } := rfl
@[simp] theorem clearAbortSource_ctrl (s : State) :
    (clearAbortSource s).ctrl = { s.ctrl with flushHold := false } := rfl
@[simp] theorem clearAbortSource_resets (s : State) : (clearAbortSource s).resets = s.resets := rfl
@[simp] theorem clearAbortSource_io (s : State) : (clearAbortSource s).io = s.io := rfl
@[simp] theorem clearAbortSource_pads (s : State) : (clearAbortSource s).pads = s.pads := rfl
@[simp] theorem clearAbortSource_sio (s : State) : (clearAbortSource s).sio = s.sio := rfl
@[simp] theorem clearAbortSource_wires (s : State) : (clearAbortSource s).wires = s.wires := rfl
@[simp] theorem clearAbortSource_trace (s : State) : (clearAbortSource s).trace = s.trace := rfl
@[simp] theorem clearAbortSource_marks (s : State) : (clearAbortSource s).marks = s.marks := rfl
@[simp] theorem clearAbortSource_host (s : State) : (clearAbortSource s).host = s.host := rfl
@[simp] theorem clearAbortSource_script (s : State) : (clearAbortSource s).script = s.script := rfl
@[simp] theorem clearAbortSource_draws (s : State) : (clearAbortSource s).draws = s.draws + 1 := rfl

@[simp] theorem raiseFault_i2c (f : Fault) (s : State) : (raiseFault f s).i2c = s.i2c := rfl
@[simp] theorem raiseFault_ctrl (f : Fault) (s : State) : (raiseFault f s).ctrl = s.ctrl := rfl
@[simp] theorem raiseFault_resets (f : Fault) (s : State) : (raiseFault f s).resets = s.resets := rfl
@[simp] theorem raiseFault_io (f : Fault) (s : State) : (raiseFault f s).io = s.io := rfl
@[simp] theorem raiseFault_pads (f : Fault) (s : State) : (raiseFault f s).pads = s.pads := rfl
@[simp] theorem raiseFault_sio (f : Fault) (s : State) : (raiseFault f s).sio = s.sio := rfl
@[simp] theorem raiseFault_wires (f : Fault) (s : State) : (raiseFault f s).wires = s.wires := rfl
@[simp] theorem raiseFault_trace (f : Fault) (s : State) : (raiseFault f s).trace = s.trace := rfl
@[simp] theorem raiseFault_marks (f : Fault) (s : State) :
    (raiseFault f s).marks = { s.marks with faulted := s.marks.faulted ++ [f] } := rfl
@[simp] theorem raiseFault_host (f : Fault) (s : State) : (raiseFault f s).host = s.host := rfl
@[simp] theorem raiseFault_script (f : Fault) (s : State) : (raiseFault f s).script = s.script := rfl
@[simp] theorem raiseFault_draws (f : Fault) (s : State) : (raiseFault f s).draws = s.draws := rfl

@[simp] theorem updWires_i2c (f : Wires → Wires) (s : State) : (updWires f s).i2c = s.i2c := rfl
@[simp] theorem updWires_ctrl (f : Wires → Wires) (s : State) : (updWires f s).ctrl = s.ctrl := rfl
@[simp] theorem updWires_resets (f : Wires → Wires) (s : State) :
    (updWires f s).resets = s.resets := rfl
@[simp] theorem updWires_io (f : Wires → Wires) (s : State) : (updWires f s).io = s.io := rfl
@[simp] theorem updWires_pads (f : Wires → Wires) (s : State) : (updWires f s).pads = s.pads := rfl
@[simp] theorem updWires_sio (f : Wires → Wires) (s : State) : (updWires f s).sio = s.sio := rfl
@[simp] theorem updWires_wires (f : Wires → Wires) (s : State) : (updWires f s).wires = f s.wires := rfl
@[simp] theorem updWires_trace (f : Wires → Wires) (s : State) : (updWires f s).trace = s.trace := rfl
@[simp] theorem updWires_marks (f : Wires → Wires) (s : State) : (updWires f s).marks = s.marks := rfl
@[simp] theorem updWires_host (f : Wires → Wires) (s : State) : (updWires f s).host = s.host := rfl
@[simp] theorem updWires_script (f : Wires → Wires) (s : State) :
    (updWires f s).script = s.script := rfl
@[simp] theorem updWires_draws (f : Wires → Wires) (s : State) : (updWires f s).draws = s.draws := rfl

@[simp] theorem release_i2c (i : Fin 25) (s : State) : (release i s).i2c = s.i2c := rfl
@[simp] theorem release_ctrl (i : Fin 25) (s : State) : (release i s).ctrl = s.ctrl := rfl
@[simp] theorem release_resets (i : Fin 25) (s : State) :
    (release i s).resets = { s.resets with done := s.resets.done ||| (1#25 <<< i.val) } := rfl
@[simp] theorem release_io (i : Fin 25) (s : State) : (release i s).io = s.io := rfl
@[simp] theorem release_pads (i : Fin 25) (s : State) : (release i s).pads = s.pads := rfl
@[simp] theorem release_sio (i : Fin 25) (s : State) : (release i s).sio = s.sio := rfl
@[simp] theorem release_wires (i : Fin 25) (s : State) : (release i s).wires = s.wires := rfl
@[simp] theorem release_trace (i : Fin 25) (s : State) : (release i s).trace = s.trace := rfl
@[simp] theorem release_marks (i : Fin 25) (s : State) : (release i s).marks = s.marks := rfl
@[simp] theorem release_host (i : Fin 25) (s : State) : (release i s).host = s.host := rfl
@[simp] theorem release_script (i : Fin 25) (s : State) : (release i s).script = s.script := rfl
@[simp] theorem release_draws (i : Fin 25) (s : State) : (release i s).draws = s.draws := rfl

@[simp] theorem updHost_i2c (f : HostState → HostState) (s : State) : (updHost f s).i2c = s.i2c := rfl
@[simp] theorem updHost_ctrl (f : HostState → HostState) (s : State) :
    (updHost f s).ctrl = s.ctrl := rfl
@[simp] theorem updHost_resets (f : HostState → HostState) (s : State) :
    (updHost f s).resets = s.resets := rfl
@[simp] theorem updHost_io (f : HostState → HostState) (s : State) : (updHost f s).io = s.io := rfl
@[simp] theorem updHost_pads (f : HostState → HostState) (s : State) :
    (updHost f s).pads = s.pads := rfl
@[simp] theorem updHost_sio (f : HostState → HostState) (s : State) : (updHost f s).sio = s.sio := rfl
@[simp] theorem updHost_wires (f : HostState → HostState) (s : State) :
    (updHost f s).wires = s.wires := rfl
@[simp] theorem updHost_trace (f : HostState → HostState) (s : State) :
    (updHost f s).trace = s.trace := rfl
@[simp] theorem updHost_marks (f : HostState → HostState) (s : State) :
    (updHost f s).marks = s.marks := rfl
@[simp] theorem updHost_host (f : HostState → HostState) (s : State) :
    (updHost f s).host = f s.host := rfl
@[simp] theorem updHost_script (f : HostState → HostState) (s : State) :
    (updHost f s).script = s.script := rfl
@[simp] theorem updHost_draws (f : HostState → HostState) (s : State) :
    (updHost f s).draws = s.draws := rfl

@[simp] theorem jumpTo_i2c (l : Nat) (s : State) : (jumpTo l s).i2c = s.i2c := rfl
@[simp] theorem jumpTo_ctrl (l : Nat) (s : State) : (jumpTo l s).ctrl = s.ctrl := rfl
@[simp] theorem jumpTo_resets (l : Nat) (s : State) : (jumpTo l s).resets = s.resets := rfl
@[simp] theorem jumpTo_io (l : Nat) (s : State) : (jumpTo l s).io = s.io := rfl
@[simp] theorem jumpTo_pads (l : Nat) (s : State) : (jumpTo l s).pads = s.pads := rfl
@[simp] theorem jumpTo_sio (l : Nat) (s : State) : (jumpTo l s).sio = s.sio := rfl
@[simp] theorem jumpTo_wires (l : Nat) (s : State) : (jumpTo l s).wires = s.wires := rfl
@[simp] theorem jumpTo_trace (l : Nat) (s : State) : (jumpTo l s).trace = s.trace := rfl
@[simp] theorem jumpTo_marks (l : Nat) (s : State) : (jumpTo l s).marks = s.marks := rfl
@[simp] theorem jumpTo_host (l : Nat) (s : State) : (jumpTo l s).host = { s.host with pc := l } := rfl
@[simp] theorem jumpTo_script (l : Nat) (s : State) : (jumpTo l s).script = s.script := rfl
@[simp] theorem jumpTo_draws (l : Nat) (s : State) : (jumpTo l s).draws = s.draws := rfl

@[simp] theorem nextStmt_i2c (s : State) : (nextStmt s).i2c = s.i2c := rfl
@[simp] theorem nextStmt_ctrl (s : State) : (nextStmt s).ctrl = s.ctrl := rfl
@[simp] theorem nextStmt_resets (s : State) : (nextStmt s).resets = s.resets := rfl
@[simp] theorem nextStmt_io (s : State) : (nextStmt s).io = s.io := rfl
@[simp] theorem nextStmt_pads (s : State) : (nextStmt s).pads = s.pads := rfl
@[simp] theorem nextStmt_sio (s : State) : (nextStmt s).sio = s.sio := rfl
@[simp] theorem nextStmt_wires (s : State) : (nextStmt s).wires = s.wires := rfl
@[simp] theorem nextStmt_trace (s : State) : (nextStmt s).trace = s.trace := rfl
@[simp] theorem nextStmt_marks (s : State) : (nextStmt s).marks = s.marks := rfl
@[simp] theorem nextStmt_host (s : State) :
    (nextStmt s).host = { s.host with pc := s.host.pc + 1 } := rfl
@[simp] theorem nextStmt_script (s : State) : (nextStmt s).script = s.script := rfl
@[simp] theorem nextStmt_draws (s : State) : (nextStmt s).draws = s.draws := rfl

@[simp] theorem writeTemp_i2c (t : Nat) (v : Word) (s : State) : (writeTemp t v s).i2c = s.i2c := rfl
@[simp] theorem writeTemp_ctrl (t : Nat) (v : Word) (s : State) : (writeTemp t v s).ctrl = s.ctrl := rfl
@[simp] theorem writeTemp_resets (t : Nat) (v : Word) (s : State) :
    (writeTemp t v s).resets = s.resets := rfl
@[simp] theorem writeTemp_io (t : Nat) (v : Word) (s : State) : (writeTemp t v s).io = s.io := rfl
@[simp] theorem writeTemp_pads (t : Nat) (v : Word) (s : State) : (writeTemp t v s).pads = s.pads := rfl
@[simp] theorem writeTemp_sio (t : Nat) (v : Word) (s : State) : (writeTemp t v s).sio = s.sio := rfl
@[simp] theorem writeTemp_wires (t : Nat) (v : Word) (s : State) :
    (writeTemp t v s).wires = s.wires := rfl
@[simp] theorem writeTemp_trace (t : Nat) (v : Word) (s : State) :
    (writeTemp t v s).trace = s.trace := rfl
@[simp] theorem writeTemp_marks (t : Nat) (v : Word) (s : State) :
    (writeTemp t v s).marks = s.marks := rfl
@[simp] theorem writeTemp_host (t : Nat) (v : Word) (s : State) :
    (writeTemp t v s).host = { s.host with temps := tempSet s.host.temps t v } := rfl
@[simp] theorem writeTemp_script (t : Nat) (v : Word) (s : State) :
    (writeTemp t v s).script = s.script := rfl
@[simp] theorem writeTemp_draws (t : Nat) (v : Word) (s : State) :
    (writeTemp t v s).draws = s.draws := rfl

@[simp] theorem hostEnds_i2c (r : Option Word) (s : State) : (hostEnds r s).i2c = s.i2c := rfl
@[simp] theorem hostEnds_ctrl (r : Option Word) (s : State) : (hostEnds r s).ctrl = s.ctrl := rfl
@[simp] theorem hostEnds_resets (r : Option Word) (s : State) : (hostEnds r s).resets = s.resets := rfl
@[simp] theorem hostEnds_io (r : Option Word) (s : State) : (hostEnds r s).io = s.io := rfl
@[simp] theorem hostEnds_pads (r : Option Word) (s : State) : (hostEnds r s).pads = s.pads := rfl
@[simp] theorem hostEnds_sio (r : Option Word) (s : State) : (hostEnds r s).sio = s.sio := rfl
@[simp] theorem hostEnds_wires (r : Option Word) (s : State) : (hostEnds r s).wires = s.wires := rfl
@[simp] theorem hostEnds_trace (r : Option Word) (s : State) : (hostEnds r s).trace = s.trace := rfl
@[simp] theorem hostEnds_marks (r : Option Word) (s : State) : (hostEnds r s).marks = s.marks := rfl
@[simp] theorem hostEnds_host (r : Option Word) (s : State) :
    (hostEnds r s).host = { s.host with halted := true, result := r } := rfl
@[simp] theorem hostEnds_script (r : Option Word) (s : State) : (hostEnds r s).script = s.script := rfl
@[simp] theorem hostEnds_draws (r : Option Word) (s : State) : (hostEnds r s).draws = s.draws := rfl

end Sys2Proof.Laws
end

