-- ==== Sys2Proof/Laws/Wires.lean ====
section
/-! SUPPORT. Pins, pads and wires: reading back a written register, what levels and the bus connection depend on, and
what the end of a step can do (`settle`). -/

namespace Sys2Proof.Laws

open Sys2Proof Sys2Proof.Machine

/-! ### Registers of a pin -/

/-- A written GPIOn_CTRL reads back. -/
theorem pinCtrlOf_setPinCtrl_same (s : State) (n : Nat) (c : PinCtrl) (h : n < 30) :
    pinCtrlOf (setPinCtrl s n c) n = c := by
  simp [pinCtrlOf, setPinCtrl, h]

/-- A write of GPIOn_CTRL leaves every other pin's. -/
theorem pinCtrlOf_setPinCtrl_other (s : State) (n m : Nat) (c : PinCtrl) (h : m ≠ n) :
    pinCtrlOf (setPinCtrl s n c) m = pinCtrlOf s m := by
  simp only [pinCtrlOf, setPinCtrl]
  rw [Vector.getElem?_setIfInBounds_ne (Ne.symm h)]

/-- A written pad reads back. -/
theorem padOf_setPad_same (s : State) (n : Nat) (p : Pad) (h : n < 30) : padOf (setPad s n p) n = p := by
  simp [padOf, setPad, h]

/-- A write of a pad leaves every other pad. -/
theorem padOf_setPad_other (s : State) (n m : Nat) (p : Pad) (h : m ≠ n) :
    padOf (setPad s n p) m = padOf s m := by
  simp only [padOf, setPad]
  rw [Vector.getElem?_setIfInBounds_ne (Ne.symm h)]

/-- A pin's control register depends on IO_BANK0 alone. -/
theorem pinCtrlOf_congr {s t : State} (h : s.io = t.io) : pinCtrlOf s = pinCtrlOf t := by
  funext n; simp only [pinCtrlOf, h]

/-- A pin's pad depends on PADS_BANK0 alone. -/
theorem padOf_congr {s t : State} (h : s.pads = t.pads) : padOf s = padOf t := by
  funext n; simp only [padOf, h]

/-! ### The bus connection (40_pin_mux.md R245) -/

/-- Whether another pin selects the signal of a pin depends on IO_BANK0 alone. -/
theorem otherPinSelects_congr {s t : State} (h : s.io = t.io) : otherPinSelects s = otherPinSelects t := by
  funext n; simp only [otherPinSelects, selectsI2c0, pinCtrlOf_congr h]

/-- The bus connection depends on IO_BANK0 and PADS_BANK0 alone. -/
theorem wired_congr {s t : State} (h1 : s.io = t.io) (h2 : s.pads = t.pads) : wired s = wired t := by
  simp only [wired, pinConnected, pulledUp, pinCtrlOf_congr h1, padOf_congr h2, otherPinSelects_congr h1]

/-- The pins' configuration test depends on IO_BANK0 and PADS_BANK0 alone. -/
theorem i2cPinOk_congr {s t : State} (h1 : s.io = t.io) (h2 : s.pads = t.pads) : i2cPinOk s = i2cPinOk t := by
  funext n; simp only [i2cPinOk, pinConnected, pinCtrlOf_congr h1, padOf_congr h2]

/-! ### Levels -/

/-- What a pin's output enable and output value depend on. -/
theorem drives_congr {s t : State} (h1 : s.io = t.io) (h2 : s.pads = t.pads) (h3 : s.sio = t.sio)
    (h5 : s.ctrl.sdaOe = t.ctrl.sdaOe) (h6 : s.ctrl.sclOe = t.ctrl.sclOe) :
    drives s = drives t ∧ outToPad s = outToPad t := by
  have a : outFromPeri s = outFromPeri t := by
    funext k n; unfold outFromPeri; rw [pinCtrlOf_congr h1, h3]
  have b : oeFromPeri s = oeFromPeri t := by
    funext k n; unfold oeFromPeri; rw [pinCtrlOf_congr h1, h3, h5, h6]
  constructor
  · funext k n; unfold drives oeToPad; rw [b, pinCtrlOf_congr h1, padOf_congr h2]
  · funext k n; unfold outToPad; rw [a, pinCtrlOf_congr h1]

/-- What a level and a contention depend on. -/
theorem level_congr {s t : State} (h1 : s.io = t.io) (h2 : s.pads = t.pads) (h3 : s.sio = t.sio)
    (h4 : s.wires = t.wires) (h5 : s.ctrl.sdaOe = t.ctrl.sdaOe) (h6 : s.ctrl.sclOe = t.ctrl.sclOe) :
    level s = level t ∧ contends s = contends t := by
  obtain ⟨a, b⟩ := drives_congr h1 h2 h3 h5 h6
  have e : envLow s = envLow t := by funext n; unfold envLow; rw [h4]
  have l : nodeLow s = nodeLow t := by funext k n; unfold nodeLow; rw [a, b, e]
  have h : nodeHigh s = nodeHigh t := by funext k n; unfold nodeHigh; rw [a, b]
  have c : contends s = contends t := by funext k n; unfold contends; rw [l, h]
  refine ⟨?_, c⟩
  funext k n
  unfold level
  rw [c, l, h, padOf_congr h2]

/-- A node contends exactly where its pad drives it high and the environment pulls it low. -/
theorem contends_iff (s : State) (t n : Nat) :
    contends s t n = true ↔ drives s t n = true ∧ outToPad s t n = true ∧ envLow s n = true := by
  unfold contends nodeLow nodeHigh
  cases drives s t n <;> cases outToPad s t n <;> simp

/-- A contention does not depend on the marks. -/
theorem contends_marks (s : State) (m : Marks) : contends { s with marks := m } = contends s :=
  (level_congr (s := { s with marks := m }) (t := s) rfl rfl rfl rfl rfl rfl).2

/-- The contention check can do two things. -/
theorem checkNode_cases (t n : Nat) (s : State) :
    (contends s t n = true ∧ checkNode t n s = raiseFault .contention s) ∨
    (contends s t n = false ∧ checkNode t n s = s) := by
  unfold checkNode
  cases contends s t n <;> simp

/-- The contention check marks a contending node, and changes nothing else. -/
theorem checkNode_eq (t n : Nat) (s : State) : checkNode t n s = { s with marks := { s.marks with
    faulted := s.marks.faulted ++ if contends s t n = true then [.contention] else [] } } := by
  rcases checkNode_cases t n s with ⟨c, h⟩ | ⟨c, h⟩ <;> simp [h, c, raiseFault]

/-- On a connected bus the SDA wire is low where the controller or the environment pulls it low, and high where
neither does (40_pin_mux.md R245, R250). -/
theorem sdaLevel_of_wired (s : State) (t : Nat) (h : wired s = true) :
    sdaLevel s t = !(s.ctrl.sdaOe || s.wires.envSdaLow) := by
  simp only [wired, pinConnected, pulledUp, Bool.and_eq_true, Bool.or_eq_true, Bool.not_eq_true',
    beq_iff_eq, Config.sdaPin] at h
  obtain ⟨⟨⟨⟨⟨⟨⟨⟨⟨⟨f1, f2⟩, f3⟩, -⟩, f5⟩, -⟩, -⟩, hp⟩, -⟩, -⟩, -⟩ := h
  have hl : nodeLow s t 4 = (s.ctrl.sdaOe || s.wires.envSdaLow) := by
    simp [nodeLow, drives, oeToPad, outToPad, oeFromPeri, outFromPeri, envLow, overridden, isI2c0Pin,
      f1, f2, f3, f5, Config.sdaPin, Config.sclPin]
  have hh : nodeHigh s t 4 = false := by
    simp [nodeHigh, outToPad, outFromPeri, overridden, isI2c0Pin, f1, f2]
  unfold sdaLevel level contends
  simp only [Config.sdaPin, hl, hh]
  rcases hp with ⟨p, q⟩ | ⟨p, q⟩ <;> cases s.ctrl.sdaOe <;> cases s.wires.envSdaLow <;> simp [p, q]

/-- On a connected bus the SCL wire is low where the controller or the environment pulls it low, and high where
neither does (40_pin_mux.md R245, R250). -/
theorem sclLevel_of_wired (s : State) (t : Nat) (h : wired s = true) :
    sclLevel s t = !(s.ctrl.sclOe || s.wires.envSclLow) := by
  simp only [wired, pinConnected, pulledUp, Bool.and_eq_true, Bool.or_eq_true, Bool.not_eq_true',
    beq_iff_eq, Config.sclPin] at h
  obtain ⟨⟨⟨⟨⟨-, ⟨⟨⟨⟨⟨f1, f2⟩, f3⟩, -⟩, f5⟩, -⟩⟩, -⟩, hp⟩, -⟩, -⟩ := h
  have hl : nodeLow s t 5 = (s.ctrl.sclOe || s.wires.envSclLow) := by
    simp [nodeLow, drives, oeToPad, outToPad, oeFromPeri, outFromPeri, envLow, overridden, isI2c0Pin,
      f1, f2, f3, f5, Config.sdaPin, Config.sclPin]
  have hh : nodeHigh s t 5 = false := by
    simp [nodeHigh, outToPad, outFromPeri, overridden, isI2c0Pin, f1, f2]
  unfold sclLevel level contends
  simp only [Config.sclPin, hl, hh]
  rcases hp with ⟨p, q⟩ | ⟨p, q⟩ <;> cases s.ctrl.sclOe <;> cases s.wires.envSclLow <;> simp [p, q]

/-- On a connected bus the controller's SDA input is the SDA wire (40_pin_mux.md R235, R245). -/
theorem i2cInput_of_wired (s : State) (t : Nat) (h : wired s = true) : i2cInput s t 0 = sdaLevel s t := by
  simp only [wired, pinConnected, Bool.and_eq_true, Bool.not_eq_true', beq_iff_eq, Config.sdaPin] at h
  obtain ⟨⟨⟨⟨⟨⟨⟨⟨⟨⟨f1, -⟩, -⟩, f4⟩, -⟩, f6⟩, -⟩, -⟩, -⟩, hs⟩, -⟩ := h
  have h4 : selectsI2c0 s 0 4 = true := by simp [selectsI2c0, isI2c0Pin, f1]
  have hn : (List.range Config.nGpio).find? (selectsI2c0 s 0) = some 4 := by
    cases hf : (List.range Config.nGpio).find? (selectsI2c0 s 0) with
    | none => exact absurd h4 (by simpa using List.find?_eq_none.mp hf 4 (by decide))
    | some n =>
      by_cases e : n = 4
      · rw [e]
      · have := List.any_eq_false.mp hs n (List.mem_of_find?_eq_some hf)
        simp [e, List.find?_some hf] at this
  simp [i2cInput, hn, inToPeri, inFromPad, overridden, f4, f6, sdaLevel, Config.sdaPin]
/-! ### The end of a step -/

/-- The outputs of 43_i2c_fsm.md R445. -/
theorem settleOutputs_eq (s : State) : ∃ b : Bool, (b = true → (s.ctrl.icEn && s.ctrl.owned) = true) ∧
    settleOutputs s =
      { s with ctrl := { s.ctrl with sclOe := s.ctrl.icEn && s.ctrl.owned, sdaOe := b } } := by
  unfold settleOutputs
  cases h : s.ctrl.icEn && s.ctrl.owned
  · exact ⟨false, by simp, by simp⟩
  · exact ⟨Config.freeBool s.draws .sdaOe, fun _ => rfl, by simp⟩

/-- What the end of a step does: the two outputs, a mark for each contending wire node, one moment. -/
theorem settle_marks (s : State) : ∃ b : Bool, (b = true → (s.ctrl.icEn && s.ctrl.owned) = true) ∧
    (let o : State := { s with ctrl := { s.ctrl with sclOe := s.ctrl.icEn && s.ctrl.owned, sdaOe := b } }
     settle s = { o with
       marks := { s.marks with faulted := s.marks.faulted ++
         (if contends o s.draws Config.sdaPin = true then [.contention] else []) ++
         (if contends o s.draws Config.sclPin = true then [.contention] else []) }
       draws := s.draws + 1 }) := by
  obtain ⟨b, hb, ho⟩ := settleOutputs_eq s
  refine ⟨b, hb, ?_⟩
  show { checkNode s.draws Config.sclPin (checkNode s.draws Config.sdaPin (settleOutputs s)) with
    draws := s.draws + 1 } = _
  rw [ho, checkNode_eq s.draws Config.sdaPin, checkNode_eq s.draws Config.sclPin, contends_marks]

/-- All that the end of a step can do: the two outputs, marks of contention, one moment. -/
theorem settle_eq (s : State) : ∃ (b : Bool) (fs : List Fault),
    (b = true → (s.ctrl.icEn && s.ctrl.owned) = true) ∧
    settle s = { s with
      ctrl := { s.ctrl with sclOe := s.ctrl.icEn && s.ctrl.owned, sdaOe := b }
      marks := { s.marks with faulted := s.marks.faulted ++ fs }
      draws := s.draws + 1 } := by
  obtain ⟨b, hb, h⟩ := settle_marks s
  exact ⟨b, _, hb, h.trans (by rw [List.append_assoc])⟩

end Sys2Proof.Laws
end

