-- ==== Sys2Proof/Laws/Ops.lean ====
section
/-! SUPPORT. The shared operations: for each, one lemma that says all it can do. -/

namespace Sys2Proof.Laws

open Sys2Proof Sys2Proof.Machine

/-! ### Admitting an access -/

/-- An access to a block out of reset goes through. -/
theorem inBlock_open {b : Nat} {s : State} (h : s.resets.done.getLsbD b = true) (f : State → State) :
    inBlock b f s = f s := by
  simp only [inBlock, h, if_true]

/-- An access to a held block is refused. -/
theorem inBlock_held {b : Nat} {s : State} (h : s.resets.done.getLsbD b = false) (f : State → State) :
    inBlock b f s = refuse .blockInReset s := by
  simp only [inBlock, h, Bool.false_eq_true, if_false]

/-- An access to a block is one of the two. -/
theorem inBlock_cases (b : Nat) (f : State → State) (s : State) :
    (s.resets.done.getLsbD b = true ∧ inBlock b f s = f s) ∨
    (s.resets.done.getLsbD b = false ∧ inBlock b f s = refuse .blockInReset s) := by
  cases h : s.resets.done.getLsbD b
  · exact .inr ⟨rfl, inBlock_held h f⟩
  · exact .inl ⟨rfl, inBlock_open h f⟩

/-- A gated write has its effect only while disabled. -/
theorem gated_cases (f : State → State) (s : State) :
    (s.ctrl.icEn = true ∧ gated f s = s) ∨ (s.ctrl.icEn = false ∧ gated f s = f s) := by
  unfold gated
  cases s.ctrl.icEn <;> simp

/-- A write admitted only while disabled. -/
theorem whileDisabled_cases (f : State → State) (s : State) :
    (s.ctrl.icEn = true ∧ whileDisabled f s = refuse .configWhileEnabled s) ∨
    (s.ctrl.icEn = false ∧ whileDisabled f s = f s) := by
  unfold whileDisabled
  cases s.ctrl.icEn <;> simp

/-- A threshold write. -/
theorem writeThreshold_cases (w : Word) (f : BitVec 8 → State → State) (s : State) :
    (15 < (fieldAt w 0 8).toNat ∧ writeThreshold w f s = refuse .thresholdRange s) ∨
    ((fieldAt w 0 8).toNat ≤ 15 ∧ writeThreshold w f s = f (fieldAt w 0 8) s) := by
  unfold writeThreshold
  split
  · exact .inl ⟨‹_›, rfl⟩
  · exact .inr ⟨by omega, rfl⟩

/-- An access to a pin's register. -/
theorem onPin_cases (n : BitVec 5) (f : State → State) (s : State) :
    (n.toNat ≤ 29 ∧ onPin n f s = f s) ∨ (29 < n.toNat ∧ onPin n f s = refuse .unmapped s) := by
  unfold onPin
  split
  · exact .inl ⟨‹_›, rfl⟩
  · exact .inr ⟨by omega, rfl⟩

/-! ### Resets -/

/-- Entering reset where a written bit rises, for the three blocks in scope. -/
theorem resetIfRising_eq (v : BitVec 25) (s : State) :
    resetIfRising v i2cBit s = { s with
      i2c := if v.getLsbD 3 && !s.resets.reset.getLsbD 3 then I2cRegs.reset else s.i2c
      ctrl := if v.getLsbD 3 && !s.resets.reset.getLsbD 3 then Ctrl.reset else s.ctrl } ∧
    resetIfRising v ioBit s = { s with
      io := if v.getLsbD 5 && !s.resets.reset.getLsbD 5 then IoBank.reset else s.io } ∧
    resetIfRising v padsBit s = { s with
      pads := if v.getLsbD 8 && !s.resets.reset.getLsbD 8 then PadsBank.reset else s.pads } := by
  refine ⟨?_, ?_, ?_⟩ <;> simp only [resetIfRising, i2cBit, ioBit, padsBit] <;> split <;>
    simp_all [resetBlock, i2cBit, ioBit, padsBit]

/-- The write of RESETS.RESET, whole: what each rising bit resets, and the two registers. -/
theorem writeResets_eq (v : BitVec 25) (s : State) :
    writeResets v s = { s with
      i2c := if v.getLsbD 3 && !s.resets.reset.getLsbD 3 then I2cRegs.reset else s.i2c
      ctrl := if v.getLsbD 3 && !s.resets.reset.getLsbD 3 then Ctrl.reset else s.ctrl
      io := if v.getLsbD 5 && !s.resets.reset.getLsbD 5 then IoBank.reset else s.io
      pads := if v.getLsbD 8 && !s.resets.reset.getLsbD 8 then PadsBank.reset else s.pads
      resets := { s.resets with
        reset := v, done := s.resets.done &&& ~~~(v &&& ~~~s.resets.reset) } } := by
  simp only [writeResets, resetIfRising_eq]

/-! ### The environment's answers -/

/-- An answer comes from the script of a connected bus, or is free. -/
theorem takeAnswer_cases (s : State) :
    (wired s = true ∧ ∃ a rest, s.script.answers = a :: rest ∧
      takeAnswer s = (a, { s with script := { s.script with answers := rest } })) ∨
    ((wired s = false ∨ s.script.answers = []) ∧
      takeAnswer s = (Config.freeAnswer s.draws, { s with draws := s.draws + 1 })) := by
  unfold takeAnswer
  cases h : wired s
  · exact .inr ⟨.inl rfl, by simp⟩
  · cases ha : s.script.answers with
    | nil => exact .inr ⟨.inr rfl, by simp⟩
    | cons a rest => exact .inl ⟨rfl, a, rest, rfl, by simp⟩

/-- A byte from a target, likewise. -/
theorem takeByte_cases (s : State) :
    (wired s = true ∧ ∃ d rest, s.script.bytes = d :: rest ∧
      takeByte s = (d, { s with script := { s.script with bytes := rest } })) ∨
    ((wired s = false ∨ s.script.bytes = []) ∧
      takeByte s = (Config.freeByte s.draws, { s with draws := s.draws + 1 })) := by
  unfold takeByte
  cases h : wired s
  · exact .inr ⟨.inl rfl, by simp⟩
  · cases ha : s.script.bytes with
    | nil => exact .inr ⟨.inr rfl, by simp⟩
    | cons d rest => exact .inl ⟨rfl, d, rest, rfl, by simp⟩

/-- Taking an answer changes the script and the moment alone. -/
theorem takeAnswer_eq (s : State) : ∃ l k, (takeAnswer s).2 =
    { s with script := { s.script with answers := l }, draws := k } := by
  rcases takeAnswer_cases s with ⟨_, a, rest, _, h⟩ | ⟨_, h⟩
  · exact ⟨rest, s.draws, by rw [h]⟩
  · exact ⟨s.script.answers, s.draws + 1, by rw [h]⟩

/-- Taking a byte changes the script and the moment alone. -/
theorem takeByte_eq (s : State) : ∃ l k, (takeByte s).2 =
    { s with script := { s.script with bytes := l }, draws := k } := by
  rcases takeByte_cases s with ⟨_, d, rest, _, h⟩ | ⟨_, h⟩
  · exact ⟨rest, s.draws, by rw [h]⟩
  · exact ⟨s.script.bytes, s.draws + 1, by rw [h]⟩

/-! ### IC_DATA_CMD, IC_ENABLE and GPIOn_CTRL -/

/-- The push of a command. -/
theorem pushCommand_cases (v : Word) (s : State) :
    (s.ctrl.icEn = false ∧ pushCommand v s = refuse .dataCmdWhileDisabled s) ∨
    (s.ctrl.icEn = true ∧ s.ctrl.flushHold = true ∧ pushCommand v s = refuse .dataCmdDuringFlush s) ∨
    (s.ctrl.icEn = true ∧ s.ctrl.flushHold = false ∧ s.ctrl.txq.length = 16 ∧
      pushCommand v s = setRaw s { s.ctrl.raw with txOver := true }) ∨
    (s.ctrl.icEn = true ∧ s.ctrl.flushHold = false ∧ s.ctrl.txq.length ≠ 16 ∧
      pushCommand v s = { s with ctrl := { s.ctrl with txq := s.ctrl.txq ++ [cmdOfWord v] } }) := by
  unfold pushCommand Config.txDepth
  cases he : s.ctrl.icEn <;> cases hf : s.ctrl.flushHold <;> by_cases hl : s.ctrl.txq.length = 16 <;>
    simp [hl]

/-- The pop of a received byte. -/
theorem popByte_cases (s : State) :
    (s.ctrl.icEn = false ∧ popByte s = refuse .dataCmdWhileDisabled s) ∨
    (s.ctrl.icEn = true ∧ s.ctrl.rxq = [] ∧
      popByte s = respondFree (setRaw s { s.ctrl.raw with rxUnder := true })) ∨
    (s.ctrl.icEn = true ∧ ∃ b rest, s.ctrl.rxq = b :: rest ∧
      popByte s = respondLow b { s with ctrl := { s.ctrl with rxq := rest } }) := by
  unfold popByte
  cases he : s.ctrl.icEn <;> cases hr : s.ctrl.rxq <;> simp

/-- The write of IC_ENABLE. -/
theorem writeEnable_cases (v : Word) (s : State) :
    (v.getLsbD 0 = false ∧ v.getLsbD 1 = true ∧ writeEnable v s = refuse .abortWhileDisabling s) ∨
    (v.getLsbD 0 = false ∧ v.getLsbD 1 = false ∧ s.ctrl.icEn = true ∧
      (s.ctrl.owned || s.ctrl.shift.isSome || s.i2c.enable.abort) = true ∧
      writeEnable v s = refuse .disableWhileActive s) ∨
    (v.getLsbD 0 = false ∧ v.getLsbD 1 = false ∧ s.ctrl.icEn = true ∧
      (s.ctrl.owned || s.ctrl.shift.isSome || s.i2c.enable.abort) = false ∧
      writeEnable v s = storeEnable false false (v.getLsbD 2) (disableCtrl s)) ∨
    (v.getLsbD 0 = false ∧ v.getLsbD 1 = false ∧ s.ctrl.icEn = false ∧
      writeEnable v s = storeEnable false false (v.getLsbD 2) s) ∨
    (v.getLsbD 0 = true ∧ s.ctrl.icEn = true ∧
      writeEnable v s = storeEnable true (v.getLsbD 1) (v.getLsbD 2) s) ∨
    (v.getLsbD 0 = true ∧ s.ctrl.icEn = false ∧
      ((∃ r, admissionFailure s.i2c = some r ∧ writeEnable v s = refuse r s) ∨
       (admissionFailure s.i2c = none ∧ writeEnable v s =
         storeEnable true (v.getLsbD 1) (v.getLsbD 2) { s with ctrl := { s.ctrl with icEn := true } }))) := by
  unfold writeEnable bitAt
  cases h0 : v.getLsbD 0 <;> cases h1 : v.getLsbD 1 <;> cases he : s.ctrl.icEn <;>
    cases ha : s.ctrl.owned || s.ctrl.shift.isSome || s.i2c.enable.abort <;>
      cases hf : admissionFailure s.i2c <;> simp_all

/-- The write of GPIOn_CTRL. -/
theorem writePinCtrl_cases (n : Nat) (w : Word) (s : State) :
    (funcselLegal (pinCtrlOfWord w).funcsel n = false ∧ writePinCtrl n w s = refuse .funcselReserved s) ∨
    (funcselLegal (pinCtrlOfWord w).funcsel n = true ∧
      ((pinCtrlOfWord w).funcsel = 3#5 ∧ isI2c0Pin n = true ∧ otherPinSelects s n = true) ∧
      writePinCtrl n w s = refuse .i2c0SignalOnTwoPins s) ∨
    (funcselLegal (pinCtrlOfWord w).funcsel n = true ∧
      ¬ ((pinCtrlOfWord w).funcsel = 3#5 ∧ isI2c0Pin n = true ∧ otherPinSelects s n = true) ∧
      writePinCtrl n w s = setPinCtrl s n (pinCtrlOfWord w)) := by
  unfold writePinCtrl
  cases h : funcselLegal (pinCtrlOfWord w).funcsel n
  · exact .inl ⟨rfl, by simp [h]⟩
  · by_cases hc : (pinCtrlOfWord w).funcsel = 3#5 ∧ isI2c0Pin n = true ∧ otherPinSelects s n = true
    · exact .inr (.inl ⟨rfl, hc, by rw [if_neg (by simp [h]), if_pos hc]⟩)
    · exact .inr (.inr ⟨rfl, hc, by rw [if_neg (by simp [h]), if_neg hc]⟩)

/-- A read of a pin's level marks the contention it meets, where the input is enabled. -/
theorem checkRead_eq (t n : Nat) (s : State) : checkRead t n s = { s with marks := { s.marks with
    faulted := s.marks.faulted ++
      if (padOf s n).ie = true ∧ contends s t n = true then [.contention] else [] } } := by
  unfold checkRead
  rw [checkNode_eq]
  cases (padOf s n).ie <;> simp

/-- A read of the levels of pins 0 to `k - 1` marks each contention it meets. -/
theorem checkReads_eq (t : Nat) (s : State) (k : Nat) : checkReads t k s = { s with marks := { s.marks with
    faulted := s.marks.faulted ++
      ((List.range k).filter (fun n => (padOf s n).ie && contends s t n)).map
        (fun _ => .contention) } } := by
  induction k with
  | zero => simp [checkReads]
  | succ k ih =>
    have next (m : Marks) : checkRead t k { s with marks := m } = { s with marks := { m with
        faulted := m.faulted ++
          if (padOf s k).ie = true ∧ contends s t k = true then [.contention] else [] } } := by
      rw [checkRead_eq, contends_marks s m]
      rfl
    rw [checkReads, ih, next, List.range_succ, List.filter_append, List.map_append, ← List.append_assoc]
    cases h : (padOf s k).ie <;> cases c : contends s t k <;> simp [h, c]

/-- A read of GPIOn_STATUS changes the value read, the moment and MARKS.faulted alone. -/
theorem readGpioStatus_eq (n : Nat) (s : State) : ∃ v, readGpioStatus n s = { s with
    host := { s.host with readData := some v }
    marks := { s.marks with faulted := s.marks.faulted ++
      if (padOf s n).ie = true ∧ contends s (s.draws + 1) n = true then [.contention] else [] }
    draws := s.draws + 2 } :=
  ⟨_, by unfold readGpioStatus; rw [checkRead_eq]; rfl⟩

/-- Taking the oldest command in hand. -/
theorem popCommand_cases (s : State) :
    (s.ctrl.txq = [] ∧ popCommand s = s) ∨
    (∃ c rest, s.ctrl.txq = c :: rest ∧ popCommand s = { s with ctrl := { s.ctrl with
      shift := some c, txq := rest, raw := { s.ctrl.raw with activity := true } } }) := by
  unfold popCommand
  cases h : s.ctrl.txq <;> simp

/-! ### Aborts -/

/-- The end of a transfer by an abort: with STOP, or the bus left to the winner. -/
theorem abortBus_cases (src : AbortSource) (b : Bool) (s : State) :
    (b = true ∧ abortBus src b s = setStopDet (emit .stop (abortEntry src s))) ∨
    (b = false ∧ abortBus src b s =
      { abortEntry src s with wires := { s.wires with otherBusy := true } }) := by
  unfold abortBus
  cases b <;> simp

end Sys2Proof.Laws
end

