-- ==== Sys2Proof/Laws/Cmdw.lean ====
section
/-! SUPPORT. The controller commands: what each phase of S_XFER can do, and the meaning of a CMDW instruction as one
operation over its command. -/

namespace Sys2Proof.Laws

open Sys2Proof Sys2Proof.Machine

/-- Each CMDW instruction performs its command. -/
theorem exec_instrOfCmd (c : Cmd) (s : State) : exec (instrOfCmd c) s = .next (performCmd c s) := by
  obtain ⟨a, b, d, e⟩ := c
  cases a <;> cases b <;> cases d <;> rfl

/-- A CMDW instruction is its command's. -/
theorem cmdOfWord_wordOfCmd (c : Cmd) : cmdOfWord (wordOfCmd c) = c := by
  obtain ⟨a, b, d, e⟩ := c
  cases a <;> cases b <;> cases d <;> revert e <;> decide

/-- A command is performed where it is enabled, and waits where it is not. -/
theorem performCmd_cases (c : Cmd) (s : State) :
    (xferEnabled c s = true ∧ performCmd c s = xfer c s) ∨
    (xferEnabled c s = false ∧ performCmd c s = s) := by
  unfold performCmd
  cases xferEnabled c s <;> simp

/-- The guard of S_XFER, as its clauses. -/
theorem xferEnabled_iff (c : Cmd) (s : State) : xferEnabled c s = true ↔
    s.ctrl.icEn = true ∧ s.resets.reset.getLsbD 3 = false ∧ s.i2c.enable.abort = false ∧
    s.ctrl.shift = some c ∧ s.wires.envSclLow = false ∧
    (s.ctrl.owned = true ∨ (s.wires.otherBusy = false ∧ s.wires.envSdaLow = false)) ∧
    ¬ (c.cmd = true ∧ s.i2c.con.rxFifoFullHldCtrl = true ∧ s.ctrl.rxq.length = 16) := by
  have d : decide (s.ctrl.rxq.length = Config.rxDepth) = decide (s.ctrl.rxq.length = 16) := rfl
  unfold xferEnabled ctrlLive i2cBit
  rw [d]
  cases c.cmd <;> cases s.i2c.con.rxFifoFullHldCtrl <;> by_cases hl : s.ctrl.rxq.length = 16 <;>
    simp [hl, and_assoc]

/-- The pending ACK slot: sent as MACK or MNACK where one is pending. -/
theorem sendPendingAck_cases (c : Cmd) (s : State) :
    (s.ctrl.rxAckPending = false ∧ sendPendingAck c s = s) ∨
    (s.ctrl.rxAckPending = true ∧ ∃ ev, (ev = .mack ∨ ev = .mnack) ∧
      sendPendingAck c s =
        { emit ev s with ctrl := { (emit ev s).ctrl with rxAckPending := false } }) := by
  unfold sendPendingAck
  cases s.ctrl.rxAckPending
  · exact .inl ⟨rfl, rfl⟩
  · refine .inr ⟨rfl, if c.cmd && !c.restart && decide (s.ctrl.dir = .read) then .mack else .mnack, ?_, rfl⟩
    split <;> simp

/-- A restart: RESTART, or STOP then START. -/
theorem restartBus_cases (s : State) :
    (s.i2c.con.restartEn = true ∧ restartBus s = setStartDet (emit .restart s)) ∨
    (s.i2c.con.restartEn = false ∧
      restartBus s = setStartDet (emit .start (setStopDet (emit .stop s)))) := by
  unfold restartBus
  cases s.i2c.con.restartEn <;> simp

/-- The opening: a new transfer, a restart, or neither. -/
theorem openPhase_cases (c : Cmd) (s : State) :
    (s.ctrl.owned = false ∧ openPhase c s = (true,
      { setStartDet (emit .start s) with
        ctrl := { (setStartDet (emit .start s)).ctrl with owned := true } })) ∨
    (s.ctrl.owned = true ∧ (c.restart || decide (cmdDir c ≠ (sendPendingAck c s).ctrl.dir)) = true ∧
      openPhase c s = (true, restartBus (sendPendingAck c s))) ∨
    (s.ctrl.owned = true ∧ (c.restart || decide (cmdDir c ≠ (sendPendingAck c s).ctrl.dir)) = false ∧
      openPhase c s = (false, sendPendingAck c s)) := by
  unfold openPhase
  cases s.ctrl.owned
  · exact .inl ⟨rfl, rfl⟩
  · cases h : c.restart || decide (cmdDir c ≠ (sendPendingAck c s).ctrl.dir)
    · exact .inr (.inr ⟨rfl, rfl, by simp only [h, if_true, Bool.false_eq_true, if_false]⟩)
    · exact .inr (.inl ⟨rfl, rfl, by simp only [h, if_true]⟩)

/-- The end of a command that completes. -/
theorem finishCmd_cases (c : Cmd) (s : State) :
    (c.stop = false ∧ finishCmd c s = { s with ctrl := { s.ctrl with shift := none } }) ∨
    (c.stop = true ∧ ∃ p, (s.ctrl.rxAckPending = false ∧ p = s ∨
        s.ctrl.rxAckPending = true ∧ p = emit .mnack s) ∧
      (let q := setStopDet (emit .stop { p with ctrl := { p.ctrl with rxAckPending := false } })
       finishCmd c s = { q with ctrl := { q.ctrl with owned := false, shift := none } })) := by
  unfold finishCmd
  cases c.stop
  · exact .inl ⟨rfl, rfl⟩
  · refine .inr ⟨rfl, if s.ctrl.rxAckPending then emit .mnack s else s, ?_, rfl⟩
    cases s.ctrl.rxAckPending <;> simp

/-- The write data phase, by the answer to the byte. -/
theorem writePhase_cases (c : Cmd) (s : State) :
    let a := takeAnswer s
    let t := emit (.tx c.dat a.1) a.2
    (a.1 = .ack ∧ writePhase c s = finishCmd c t) ∨
    (a.1 = .nack ∧ writePhase c s = abortBus .txDataNoack true t) ∨
    (a.1 = .lost ∧ writePhase c s = abortBus .arbLost false t) := by
  dsimp only [writePhase]
  cases (takeAnswer s).1 <;> simp

/-- A received byte: queued, or lost with RX_OVER. -/
theorem receive_cases (d : Byte) (s : State) :
    (s.ctrl.rxq.length < 16 ∧
      receive d s = { s with ctrl := { s.ctrl with rxq := s.ctrl.rxq ++ [d] } }) ∨
    (16 ≤ s.ctrl.rxq.length ∧ receive d s = setRaw s { s.ctrl.raw with rxOver := true }) := by
  unfold receive Config.rxDepth
  split
  · exact .inl ⟨‹_›, rfl⟩
  · exact .inr ⟨by omega, rfl⟩

/-- S_XFER: no address phase, or one with each of its answers. -/
theorem xfer_cases (c : Cmd) (s : State) :
    let o := openPhase c s
    let a := addressPhase c o.2
    (o.1 = false ∧ xfer c s = dataPhase c o.2) ∨
    (o.1 = true ∧ a.1 = .ack ∧ xfer c s = dataPhase c a.2) ∨
    (o.1 = true ∧ a.1 = .nack ∧ xfer c s = abortBus .addrNoack true a.2) ∨
    (o.1 = true ∧ a.1 = .lost ∧ xfer c s = abortBus .arbLost false a.2) := by
  dsimp only [xfer]
  cases (openPhase c s).1
  · simp
  · cases (addressPhase c (openPhase c s).2).1 <;> simp

end Sys2Proof.Laws
end

