-- ==== Sys2Proof/Laws/Decode.lean ====
section
/-! SUPPORT. Decoding: what an access that decodes looks like, and the command instructions. -/

namespace Sys2Proof.Laws

open Sys2Proof

/-- An access that decodes is 32 bits wide and aligned, and is built by a row that it hits. -/
theorem decodeAcc_ok {n : Nat} {acc : BitVec 33} {v : Word} {i : Instr} (h : decodeAcc n acc v = .ok i) :
    n = 4 ∧ acc.extractLsb' 0 2 = 0#2 ∧ ∃ r, r ∈ accRows ∧ r.hits acc = true ∧ i = r.build acc v := by
  unfold decodeAcc at h
  split at h
  · cases h
  · rename_i hn
    cases hf : accRows.find? (fun r => r.hits acc) with
    | none => rw [hf] at h; cases h
    | some r =>
      rw [hf] at h
      refine ⟨by by_contra hx; exact hn (.inl hx), by by_contra hx; exact hn (.inr hx),
        r, List.mem_of_find?_eq_some hf, by simpa using List.find?_some hf, ?_⟩
      cases h; rfl

/-- An aligned access that hits no row is refused with the reason of 30_encoding.md R153. -/
theorem decodeAcc_error {acc : BitVec 33} {v : Word} (h : acc.extractLsb' 0 2 = 0#2)
    (hm : accMatches acc = false) : decodeAcc 4 acc v = .error (refusalReason acc) := by
  have hf : accRows.find? (fun r => r.hits acc) = none := by
    rw [List.find?_eq_none]
    simpa [accMatches, List.any_eq_false] using hm
  simp only [decodeAcc, h, hf, ne_eq, not_true, or_self, if_false]

/-- An aligned access that hits a row decodes. -/
theorem decodeAcc_of_matches {acc : BitVec 33} (v : Word) (h : acc.extractLsb' 0 2 = 0#2)
    (hm : accMatches acc = true) : ∃ i, decodeAcc 4 acc v = .ok i := by
  cases hf : accRows.find? (fun r => r.hits acc) with
  | none =>
    rw [List.find?_eq_none] at hf
    obtain ⟨r, hr, hh⟩ := List.any_eq_true.mp hm
    exact absurd hh (hf r hr)
  | some r => exact ⟨r.build acc v, by simp only [decodeAcc, h, hf, ne_eq, not_true, or_self, if_false]⟩

/-- The word of a command instruction is its command's. -/
theorem encode_instrOfCmd (c : Cmd) : encode (instrOfCmd c) = .cmdw (wordOfCmd c) := by
  obtain ⟨a, b, d, e⟩ := c
  cases a <;> cases b <;> cases d <;> rfl

/-- A command instruction is well formed. -/
theorem wf_instrOfCmd (c : Cmd) : (instrOfCmd c).wf = true := by
  obtain ⟨a, b, d, e⟩ := c
  cases a <;> cases b <;> cases d <;> rfl

end Sys2Proof.Laws
end

