-- ==== Sys2Proof/Laws/Operands.lean ====
section
/-! SUPPORT. Laws of the operand forms: the bits of a placed field, the alias operation bit by bit, the word a
masked read returns, and the canonical form of the HOST's temporaries. -/

namespace Sys2Proof.Laws

open Sys2Proof.Machine Sys2Proof.Safety

/-! ### Fields -/

theorem getLsbD_place (lo : Nat) (f : BitVec k) (i : Nat) :
    (place lo f : BitVec w).getLsbD i = (decide (i < w) && decide (lo ≤ i) && f.getLsbD (i - lo)) := by
  by_cases hw : i < w <;> by_cases hl : lo ≤ i
  · have h : i - lo < w := by omega
    have hn : ¬ i < lo := by omega
    simp [place, hw, hl, h, hn, -BitVec.getLsbD_eq_getElem]
  · have hn : i < lo := by omega
    simp [place, hl, hn, -BitVec.getLsbD_eq_getElem]
  · simp [place, hw, -BitVec.getLsbD_eq_getElem]
  · simp [place, hw, -BitVec.getLsbD_eq_getElem]

theorem getLsbD_zext (f : BitVec k) (i : Nat) :
    (zext f).getLsbD i = (decide (i < 32) && f.getLsbD i) := by
  simp [zext, -BitVec.getLsbD_eq_getElem]

theorem getLsbD_bit1 (b : Bool) (i : Nat) : (bit1 b).getLsbD i = (decide (i = 0) && b) := by
  simp [bit1, BitVec.getLsbD_ofBool, -BitVec.getLsbD_eq_getElem]

theorem getLsbD_fieldAt (v : Word) (lo w i : Nat) (h : i < w) :
    (fieldAt v lo w).getLsbD i = v.getLsbD (lo + i) := by
  simp [fieldAt, h, -BitVec.getLsbD_eq_getElem]

/-! ### The alias operation -/

theorem aliasApply_getLsbD (op : AliasOp) (old v : Word) (i : Nat) (h : i < 32) :
    (aliasApply op old v).getLsbD i = aliasBit op (old.getLsbD i) (v.getLsbD i) := by
  cases op <;> simp [aliasApply, aliasBit, h, -BitVec.getLsbD_eq_getElem]

/-- The field a write stores, where the word the alias operation sees holds the field at bit `lo`. -/
theorem fieldWritten_fieldAt (op : AliasOp) (old : BitVec w) (oldWord v : Word) (lo : Nat)
    (hw : lo + w ≤ 32) (h : ∀ i, i < w → oldWord.getLsbD (lo + i) = old.getLsbD i) :
    FieldWritten op old (fieldAt (aliasApply op oldWord v) lo w) v lo := by
  intro i hi
  rw [getLsbD_fieldAt _ _ _ _ hi, aliasApply_getLsbD _ _ _ _ (by omega), h i hi]

theorem aliasApply_of_wordWritten (op : AliasOp) (old v w : Word) (h : WordWritten op old v w) :
    aliasApply op old v = w := by
  apply BitVec.eq_of_getLsbD_eq
  intro i hi
  rw [aliasApply_getLsbD _ _ _ _ hi, h i hi]
  simp

/-! ### Masked reads -/

theorem masked_getLsbD (m v f : Word) (i : Nat) (h : m.getLsbD i = true) :
    ((v &&& m) ||| (f &&& ~~~m)).getLsbD i = v.getLsbD i := by
  by_cases hi : i < 32 <;> simp [h, hi, -BitVec.getLsbD_eq_getElem]

theorem masked_outside (m v f : Word) : ((v &&& m) ||| (f &&& ~~~m)) &&& ~~~m = f &&& ~~~m := by
  ext i hi
  simp only [BitVec.getElem_and, BitVec.getElem_or, BitVec.getElem_not]
  cases m[i] <;> simp

/-- A masked read completes with its defined bits and leaves every other bit free. -/
theorem reads_of_respondMasked (i : Instr) (s : State) (m v : Word) (P : Word → Prop)
    (he : exec i s = .next (respondMasked m v s))
    (hp : ∀ x : Word, (∀ j, m.getLsbD j = true → x.getLsbD j = v.getLsbD j) → P x) :
    Reads i s m P :=
  ⟨_, he, masked_outside m v _, hp _ fun j hj => masked_getLsbD m v _ j hj⟩

/-! ### Temporaries -/

theorem tempsWfFrom_le (l : List (Nat × Word)) (a b : Nat) (hab : a ≤ b)
    (h : tempsWfFrom b l = true) : tempsWfFrom a l = true := by
  cases l with
  | nil => rfl
  | cons e rest =>
    simp only [tempsWfFrom, Bool.and_eq_true, decide_eq_true_eq] at *
    exact ⟨⟨by omega, h.1.2⟩, h.2⟩

/-- A name below every listed one is not listed. -/
theorem tempGet_below (l : List (Nat × Word)) (a u : Nat) (h : tempsWfFrom a l = true) (hu : u < a) :
    tempGet l u = tempDefault := by
  induction l generalizing a with
  | nil => rfl
  | cons e rest ih =>
    simp only [tempsWfFrom, Bool.and_eq_true, decide_eq_true_eq] at h
    have hne : ¬ e.1 = u := by omega
    simp only [tempGet, hne, if_false]
    exact ih _ h.2 (by omega)

/-- Writing a temporary keeps the canonical form. -/
theorem tempSet_wfFrom (l : List (Nat × Word)) (a t : Nat) (v : Word) (ha : a ≤ t)
    (h : tempsWfFrom a l = true) : tempsWfFrom a (tempSet l t v) = true := by
  induction l generalizing a with
  | nil => by_cases hv : v = tempDefault <;> simp [tempSet, tempsWfFrom, hv, ha]
  | cons e rest ih =>
    simp only [tempsWfFrom, Bool.and_eq_true, decide_eq_true_eq] at h
    obtain ⟨⟨h1, h2⟩, h3⟩ := h
    simp only [tempSet]
    split
    · next hlt =>
      split
      · simp [tempsWfFrom, h1, h2, h3]
      · next hv => simp [tempsWfFrom, ha, hv, h2, h3]; omega
    · split
      · next hlt heq =>
        split
        · exact tempsWfFrom_le _ _ _ (by omega) h3
        · next hv => subst heq; simp [tempsWfFrom, ha, hv, h3]
      · next hlt hne => simp [tempsWfFrom, h1, h2, ih _ (by omega) h3]

theorem tempSet_wf (l : List (Nat × Word)) (t : Nat) (v : Word) (h : tempsWf l = true) :
    tempsWf (tempSet l t v) = true := tempSet_wfFrom l 0 t v (Nat.zero_le _) h

/-- A temporary written holds the value written. -/
theorem tempGet_tempSet_same (l : List (Nat × Word)) (a t : Nat) (v : Word)
    (h : tempsWfFrom a l = true) : tempGet (tempSet l t v) t = v := by
  induction l generalizing a with
  | nil => by_cases hv : v = tempDefault <;> simp [tempSet, tempGet, hv]
  | cons e rest ih =>
    simp only [tempsWfFrom, Bool.and_eq_true, decide_eq_true_eq] at h
    simp only [tempSet]
    split
    · next hlt =>
      split
      · next hv =>
        have hne : ¬ e.1 = t := by omega
        rw [hv]
        simp only [tempGet, hne, if_false]
        exact tempGet_below rest (e.1 + 1) t h.2 (by omega)
      · simp [tempGet]
    · split
      · next hlt heq =>
        subst heq
        split
        · next hv => rw [hv]; exact tempGet_below rest _ _ h.2 (by omega)
        · simp [tempGet]
      · next hlt hne =>
        have hne' : ¬ e.1 = t := fun x => hne x.symm
        simp only [tempGet, hne', if_false]
        exact ih _ h.2

/-- Every other temporary stays. -/
theorem tempGet_tempSet_other (l : List (Nat × Word)) (a t u : Nat) (v : Word)
    (h : tempsWfFrom a l = true) (hu : u ≠ t) : tempGet (tempSet l t v) u = tempGet l u := by
  induction l generalizing a with
  | nil =>
    have : ¬ t = u := fun x => hu x.symm
    by_cases hv : v = tempDefault <;> simp [tempSet, tempGet, hv, this]
  | cons e rest ih =>
    simp only [tempsWfFrom, Bool.and_eq_true, decide_eq_true_eq] at h
    have htu : ¬ t = u := fun x => hu x.symm
    simp only [tempSet]
    split
    · split
      · rfl
      · simp [tempGet, htu]
    · split
      · next hlt heq =>
        subst heq
        split
        · next hv =>
          simp only [tempGet, htu, if_false]
        · simp [tempGet, htu]
      · simp only [tempGet]
        split
        · rfl
        · exact ih _ h.2

end Sys2Proof.Laws
end

