-- ==== Sys2Proof/Laws/PerInstr.lean ====
section
/-! SUPPORT. A statement about every instruction as syntax, one lemma per constructor: its words are a whole access of
32 bits at a word-aligned address (20_memory.md R104), or a command word whose bits 31:11 are 0
(30_encoding.md R160). -/

namespace Sys2Proof.Laws.WordAligned

open Sys2Proof

/-- What the words of an instruction look like. -/
def Statement (i : Instr) : Prop :=
  match encode i with
  | .acc n acc _ => n = 4 ∧ acc.extractLsb' 0 2 = 0#2
  | .cmdw w => w.extractLsb' 11 21 = 0#21

/-- A command's word has nothing above bit 10. -/
theorem wordOfCmd_high (c : Cmd) : (wordOfCmd c).extractLsb' 11 21 = 0#21 := by
  obtain ⟨a, b, d, e⟩ := c
  cases a <;> cases b <;> cases d <;> revert e <;> decide

theorem rdIcCon : Statement .rdIcCon := ⟨rfl, by decide⟩
theorem wrIcCon (op : AliasOp) (v : Word) : Statement (.wrIcCon op v) := ⟨rfl, by cases op <;> decide⟩
theorem rdIcTar : Statement .rdIcTar := ⟨rfl, by decide⟩
theorem wrIcTar (op : AliasOp) (v : Word) : Statement (.wrIcTar op v) := ⟨rfl, by cases op <;> decide⟩
theorem rdIcSar : Statement .rdIcSar := ⟨rfl, by decide⟩
theorem wrIcSar (op : AliasOp) (v : Word) : Statement (.wrIcSar op v) := ⟨rfl, by cases op <;> decide⟩
theorem rdIcDataCmd : Statement .rdIcDataCmd := ⟨rfl, by decide⟩
theorem wrIcDataCmd (v : Word) : Statement (.wrIcDataCmd v) := ⟨rfl, by decide⟩
theorem rdIcSsSclHcnt : Statement .rdIcSsSclHcnt := ⟨rfl, by decide⟩
theorem wrIcSsSclHcnt (op : AliasOp) (v : Word) : Statement (.wrIcSsSclHcnt op v) := ⟨rfl, by cases op <;> decide⟩
theorem rdIcSsSclLcnt : Statement .rdIcSsSclLcnt := ⟨rfl, by decide⟩
theorem wrIcSsSclLcnt (op : AliasOp) (v : Word) : Statement (.wrIcSsSclLcnt op v) := ⟨rfl, by cases op <;> decide⟩
theorem rdIcFsSclHcnt : Statement .rdIcFsSclHcnt := ⟨rfl, by decide⟩
theorem wrIcFsSclHcnt (op : AliasOp) (v : Word) : Statement (.wrIcFsSclHcnt op v) := ⟨rfl, by cases op <;> decide⟩
theorem rdIcFsSclLcnt : Statement .rdIcFsSclLcnt := ⟨rfl, by decide⟩
theorem wrIcFsSclLcnt (op : AliasOp) (v : Word) : Statement (.wrIcFsSclLcnt op v) := ⟨rfl, by cases op <;> decide⟩
theorem rdIcIntrStat : Statement .rdIcIntrStat := ⟨rfl, by decide⟩
theorem rdIcIntrMask : Statement .rdIcIntrMask := ⟨rfl, by decide⟩
theorem wrIcIntrMask (op : AliasOp) (v : Word) : Statement (.wrIcIntrMask op v) := ⟨rfl, by cases op <;> decide⟩
theorem rdIcRawIntrStat : Statement .rdIcRawIntrStat := ⟨rfl, by decide⟩
theorem rdIcRxTl : Statement .rdIcRxTl := ⟨rfl, by decide⟩
theorem wrIcRxTl (op : AliasOp) (v : Word) : Statement (.wrIcRxTl op v) := ⟨rfl, by cases op <;> decide⟩
theorem rdIcTxTl : Statement .rdIcTxTl := ⟨rfl, by decide⟩
theorem wrIcTxTl (op : AliasOp) (v : Word) : Statement (.wrIcTxTl op v) := ⟨rfl, by cases op <;> decide⟩
theorem rdIcClrIntr : Statement .rdIcClrIntr := ⟨rfl, by decide⟩
theorem rdIcClrRxUnder : Statement .rdIcClrRxUnder := ⟨rfl, by decide⟩
theorem rdIcClrRxOver : Statement .rdIcClrRxOver := ⟨rfl, by decide⟩
theorem rdIcClrTxOver : Statement .rdIcClrTxOver := ⟨rfl, by decide⟩
theorem rdIcClrRdReq : Statement .rdIcClrRdReq := ⟨rfl, by decide⟩
theorem rdIcClrTxAbrt : Statement .rdIcClrTxAbrt := ⟨rfl, by decide⟩
theorem rdIcClrRxDone : Statement .rdIcClrRxDone := ⟨rfl, by decide⟩
theorem rdIcClrActivity : Statement .rdIcClrActivity := ⟨rfl, by decide⟩
theorem rdIcClrStopDet : Statement .rdIcClrStopDet := ⟨rfl, by decide⟩
theorem rdIcClrStartDet : Statement .rdIcClrStartDet := ⟨rfl, by decide⟩
theorem rdIcClrGenCall : Statement .rdIcClrGenCall := ⟨rfl, by decide⟩
theorem rdIcEnable : Statement .rdIcEnable := ⟨rfl, by decide⟩
theorem wrIcEnable (v : Word) : Statement (.wrIcEnable v) := ⟨rfl, by decide⟩
theorem rdIcStatus : Statement .rdIcStatus := ⟨rfl, by decide⟩
theorem rdIcTxflr : Statement .rdIcTxflr := ⟨rfl, by decide⟩
theorem rdIcRxflr : Statement .rdIcRxflr := ⟨rfl, by decide⟩
theorem rdIcSdaHold : Statement .rdIcSdaHold := ⟨rfl, by decide⟩
theorem wrIcSdaHold (op : AliasOp) (v : Word) : Statement (.wrIcSdaHold op v) := ⟨rfl, by cases op <;> decide⟩
theorem rdIcTxAbrtSource : Statement .rdIcTxAbrtSource := ⟨rfl, by decide⟩
theorem rdIcSlvDataNackOnly : Statement .rdIcSlvDataNackOnly := ⟨rfl, by decide⟩
theorem wrIcSlvDataNackOnly (op : AliasOp) (v : Word) : Statement (.wrIcSlvDataNackOnly op v) := ⟨rfl, by cases op <;> decide⟩
theorem rdIcDmaCr : Statement .rdIcDmaCr := ⟨rfl, by decide⟩
theorem wrIcDmaCr (op : AliasOp) (v : Word) : Statement (.wrIcDmaCr op v) := ⟨rfl, by cases op <;> decide⟩
theorem rdIcDmaTdlr : Statement .rdIcDmaTdlr := ⟨rfl, by decide⟩
theorem wrIcDmaTdlr (op : AliasOp) (v : Word) : Statement (.wrIcDmaTdlr op v) := ⟨rfl, by cases op <;> decide⟩
theorem rdIcDmaRdlr : Statement .rdIcDmaRdlr := ⟨rfl, by decide⟩
theorem wrIcDmaRdlr (op : AliasOp) (v : Word) : Statement (.wrIcDmaRdlr op v) := ⟨rfl, by cases op <;> decide⟩
theorem rdIcSdaSetup : Statement .rdIcSdaSetup := ⟨rfl, by decide⟩
theorem wrIcSdaSetup (op : AliasOp) (v : Word) : Statement (.wrIcSdaSetup op v) := ⟨rfl, by cases op <;> decide⟩
theorem rdIcAckGeneralCall : Statement .rdIcAckGeneralCall := ⟨rfl, by decide⟩
theorem wrIcAckGeneralCall (op : AliasOp) (v : Word) : Statement (.wrIcAckGeneralCall op v) := ⟨rfl, by cases op <;> decide⟩
theorem rdIcEnableStatus : Statement .rdIcEnableStatus := ⟨rfl, by decide⟩
theorem rdIcFsSpklen : Statement .rdIcFsSpklen := ⟨rfl, by decide⟩
theorem wrIcFsSpklen (op : AliasOp) (v : Word) : Statement (.wrIcFsSpklen op v) := ⟨rfl, by cases op <;> decide⟩
theorem rdIcClrRestartDet : Statement .rdIcClrRestartDet := ⟨rfl, by decide⟩
theorem rdIcCompParam1 : Statement .rdIcCompParam1 := ⟨rfl, by decide⟩
theorem rdIcCompVersion : Statement .rdIcCompVersion := ⟨rfl, by decide⟩
theorem rdIcCompType : Statement .rdIcCompType := ⟨rfl, by decide⟩
theorem rdResetsReset : Statement .rdResetsReset := ⟨rfl, by decide⟩
theorem wrResetsReset (op : AliasOp) (v : Word) : Statement (.wrResetsReset op v) := ⟨rfl, by cases op <;> decide⟩
theorem rdResetsWdsel : Statement .rdResetsWdsel := ⟨rfl, by decide⟩
theorem wrResetsWdsel (op : AliasOp) (v : Word) : Statement (.wrResetsWdsel op v) := ⟨rfl, by cases op <;> decide⟩
theorem rdResetsResetDone : Statement .rdResetsResetDone := ⟨rfl, by decide⟩
theorem rdGpioStatus (n : BitVec 5) : Statement (.rdGpioStatus n) :=
  ⟨rfl, by revert n; decide⟩
theorem rdGpioCtrl (n : BitVec 5) : Statement (.rdGpioCtrl n) :=
  ⟨rfl, by revert n; decide⟩
theorem wrGpioCtrl (n : BitVec 5) (op : AliasOp) (v : Word) : Statement (.wrGpioCtrl n op v) :=
  ⟨rfl, by cases op <;> revert n <;> decide⟩
theorem rdVoltageSelect : Statement .rdVoltageSelect := ⟨rfl, by decide⟩
theorem wrVoltageSelect (op : AliasOp) (v : Word) : Statement (.wrVoltageSelect op v) := ⟨rfl, by cases op <;> decide⟩
theorem rdPadGpio (n : BitVec 5) : Statement (.rdPadGpio n) :=
  ⟨rfl, by revert n; decide⟩
theorem wrPadGpio (n : BitVec 5) (op : AliasOp) (v : Word) : Statement (.wrPadGpio n op v) :=
  ⟨rfl, by cases op <;> revert n <;> decide⟩
theorem rdSioCpuid : Statement .rdSioCpuid := ⟨rfl, by decide⟩
theorem rdSioGpioIn : Statement .rdSioGpioIn := ⟨rfl, by decide⟩
theorem rdSioGpioOut : Statement .rdSioGpioOut := ⟨rfl, by decide⟩
theorem wrSioGpioOut (v : Word) : Statement (.wrSioGpioOut v) := ⟨rfl, by decide⟩
theorem rdSioGpioOutSet : Statement .rdSioGpioOutSet := ⟨rfl, by decide⟩
theorem wrSioGpioOutSet (v : Word) : Statement (.wrSioGpioOutSet v) := ⟨rfl, by decide⟩
theorem rdSioGpioOutClr : Statement .rdSioGpioOutClr := ⟨rfl, by decide⟩
theorem wrSioGpioOutClr (v : Word) : Statement (.wrSioGpioOutClr v) := ⟨rfl, by decide⟩
theorem rdSioGpioOutXor : Statement .rdSioGpioOutXor := ⟨rfl, by decide⟩
theorem wrSioGpioOutXor (v : Word) : Statement (.wrSioGpioOutXor v) := ⟨rfl, by decide⟩
theorem rdSioGpioOe : Statement .rdSioGpioOe := ⟨rfl, by decide⟩
theorem wrSioGpioOe (v : Word) : Statement (.wrSioGpioOe v) := ⟨rfl, by decide⟩
theorem rdSioGpioOeSet : Statement .rdSioGpioOeSet := ⟨rfl, by decide⟩
theorem wrSioGpioOeSet (v : Word) : Statement (.wrSioGpioOeSet v) := ⟨rfl, by decide⟩
theorem rdSioGpioOeClr : Statement .rdSioGpioOeClr := ⟨rfl, by decide⟩
theorem wrSioGpioOeClr (v : Word) : Statement (.wrSioGpioOeClr v) := ⟨rfl, by decide⟩
theorem rdSioGpioOeXor : Statement .rdSioGpioOeXor := ⟨rfl, by decide⟩
theorem wrSioGpioOeXor (v : Word) : Statement (.wrSioGpioOeXor v) := ⟨rfl, by decide⟩
theorem cmdW (dat : Byte) : Statement (.cmdW dat) := wordOfCmd_high _
theorem cmdR (dat : Byte) : Statement (.cmdR dat) := wordOfCmd_high _
theorem cmdWStop (dat : Byte) : Statement (.cmdWStop dat) := wordOfCmd_high _
theorem cmdRStop (dat : Byte) : Statement (.cmdRStop dat) := wordOfCmd_high _
theorem cmdWRestart (dat : Byte) : Statement (.cmdWRestart dat) := wordOfCmd_high _
theorem cmdRRestart (dat : Byte) : Statement (.cmdRRestart dat) := wordOfCmd_high _
theorem cmdWRestartStop (dat : Byte) : Statement (.cmdWRestartStop dat) := wordOfCmd_high _
theorem cmdRRestartStop (dat : Byte) : Statement (.cmdRRestartStop dat) := wordOfCmd_high _

end Sys2Proof.Laws.WordAligned
end

