-- ==== Sys2Proof/Laws/Step.lean ====
section
/-! SUPPORT. The step: what beginning a turn leaves, what a fetched instruction's turn ends with, and the steps that run
no instruction. -/

namespace Sys2Proof.Laws

open Sys2Proof Sys2Proof.Machine

/-- Every instruction takes a next state. -/
theorem exec_next (i : Instr) (s : State) : ∃ t, exec i s = .next t := by
  cases i <;> exact ⟨_, rfl⟩

/-- Every state takes a next state. -/
theorem step_next (s : State) : ∃ t, step s = .next t := by
  unfold step
  split
  · split
    · rename_i i _
      obtain ⟨t, h⟩ := exec_next i (beginTurn s)
      rw [h]
      exact ⟨_, rfl⟩
    · exact ⟨_, rfl⟩
  · exact ⟨_, rfl⟩

/-- All that a step can do: run the instruction fetched, refuse the access fetched, or take a step that runs
none. -/
theorem step_cases {s t : State} (h : step s = .next t) :
    (∃ c i u, fetch (nextTurn s) (beginTurn s) = some c ∧ decode c = .ok i ∧
      exec i (beginTurn s) = .next u ∧ t = finish (nextTurn s) u) ∨
    (∃ c r, fetch (nextTurn s) (beginTurn s) = some c ∧ decode c = .error r ∧
      t = finish (nextTurn s) (refuse r (beginTurn s))) ∨
    (fetch (nextTurn s) (beginTurn s) = none ∧ t = localStep (nextTurn s) (beginTurn s)) := by
  unfold step at h
  cases hf : fetch (nextTurn s) (beginTurn s) with
  | none =>
    rw [hf] at h
    exact .inr (.inr ⟨rfl, (Host.Outcome.next.inj h).symm⟩)
  | some c =>
    simp only [hf] at h
    cases hd : decode c with
    | error r =>
      simp only [hd] at h
      exact .inr (.inl ⟨c, r, rfl, hd, (Host.Outcome.next.inj h).symm⟩)
    | ok i =>
      obtain ⟨u, hu⟩ := exec_next i (beginTurn s)
      simp only [hd, hu] at h
      exact .inl ⟨c, i, u, rfl, hd, hu, (Host.Outcome.next.inj h).symm⟩

/-- Beginning a turn drops the turn from the agenda, or draws a moment, and forgets the value read. -/
theorem beginTurn_eq (s : State) : ∃ l k, beginTurn s = { s with
    host := { s.host with readData := none }
    script := { s.script with agenda := l }
    draws := k } := by
  unfold beginTurn updHost
  dsimp only
  split
  · exact ⟨_, s.draws, rfl⟩
  · exact ⟨s.script.agenda, s.draws + 1, rfl⟩

@[simp] theorem beginTurn_i2c (s : State) : (beginTurn s).i2c = s.i2c := by
  obtain ⟨l, k, h⟩ := beginTurn_eq s; rw [h]
@[simp] theorem beginTurn_ctrl (s : State) : (beginTurn s).ctrl = s.ctrl := by
  obtain ⟨l, k, h⟩ := beginTurn_eq s; rw [h]
@[simp] theorem beginTurn_resets (s : State) : (beginTurn s).resets = s.resets := by
  obtain ⟨l, k, h⟩ := beginTurn_eq s; rw [h]
@[simp] theorem beginTurn_io (s : State) : (beginTurn s).io = s.io := by
  obtain ⟨l, k, h⟩ := beginTurn_eq s; rw [h]
@[simp] theorem beginTurn_pads (s : State) : (beginTurn s).pads = s.pads := by
  obtain ⟨l, k, h⟩ := beginTurn_eq s; rw [h]
@[simp] theorem beginTurn_sio (s : State) : (beginTurn s).sio = s.sio := by
  obtain ⟨l, k, h⟩ := beginTurn_eq s; rw [h]
@[simp] theorem beginTurn_wires (s : State) : (beginTurn s).wires = s.wires := by
  obtain ⟨l, k, h⟩ := beginTurn_eq s; rw [h]
@[simp] theorem beginTurn_trace (s : State) : (beginTurn s).trace = s.trace := by
  obtain ⟨l, k, h⟩ := beginTurn_eq s; rw [h]
@[simp] theorem beginTurn_marks (s : State) : (beginTurn s).marks = s.marks := by
  obtain ⟨l, k, h⟩ := beginTurn_eq s; rw [h]
@[simp] theorem beginTurn_host (s : State) : (beginTurn s).host = { s.host with readData := none } := by
  obtain ⟨l, k, h⟩ := beginTurn_eq s; rw [h]

/-- Retiring a statement changes the HOST alone, and its program counter and temporaries there. -/
theorem retire_eq (st : Stmt) (s : State) : ∃ p l, (l = s.host.temps ∨
      ∃ t v, s.host.readData = some v ∧ l = tempSet s.host.temps t v) ∧
    retire st s = { s with host := { s.host with pc := p, temps := l } } := by
  unfold retire pollEnds
  cases hr : s.host.readData with
  | none => split <;> exact ⟨_, s.host.temps, .inl rfl, rfl⟩
  | some v =>
    split
    · exact ⟨s.host.pc + 1, tempSet s.host.temps _ v, .inr ⟨_, v, rfl, rfl⟩, rfl⟩
    · dsimp only; split
      · exact ⟨s.host.pc + 1, s.host.temps, .inl rfl, rfl⟩
      · exact ⟨s.host.pc, s.host.temps, .inl rfl, rfl⟩
    · dsimp only; split
      · exact ⟨s.host.pc + 1, s.host.temps, .inl rfl, rfl⟩
      · exact ⟨s.host.pc, s.host.temps, .inl rfl, rfl⟩
    · exact ⟨s.host.pc + 1, s.host.temps, .inl rfl, rfl⟩

/-- A turn that ran an instruction ends with `settle`, after the HOST's statement has retired. -/
theorem finish_eq (t : Turn) (s : State) : ∃ p l, (l = s.host.temps ∨
      ∃ k v, s.host.readData = some v ∧ l = tempSet s.host.temps k v) ∧
    finish t s = settle { s with host := { s.host with pc := p, temps := l } } := by
  have same : ∃ p l, (l = s.host.temps ∨ ∃ k v, s.host.readData = some v ∧
      l = tempSet s.host.temps k v) ∧
      settle s = settle { s with host := { s.host with pc := p, temps := l } } :=
    ⟨s.host.pc, s.host.temps, .inl rfl, rfl⟩
  cases t
  · simp only [finish, hostFinish]
    split
    · rename_i st _
      obtain ⟨p, l, hl, h⟩ := retire_eq st s
      exact ⟨p, l, hl, by rw [h]⟩
    · exact same
  all_goals exact same

/-- SDA after one more cycle of a phase: a change that comes nearer, one that takes place, or none. -/
theorem sdaTick_cases (c : Ctrl) :
    (∃ ch, c.phase = .low ∧ c.sdaDue = some ch ∧ 1 < ch.after ∧
      sdaTick c = (c.sdaLine, some { ch with after := ch.after - 1 })) ∨
    (∃ ch, c.phase = .low ∧ c.sdaDue = some ch ∧ ch.after ≤ 1 ∧
      sdaTick c = ({ c.sdaLine with ctrlLow := ch.ctrlLow }, none)) ∨
    ((c.phase ≠ .low ∨ c.sdaDue = none) ∧ sdaTick c = (c.sdaLine, c.sdaDue)) := by
  unfold sdaTick
  split
  · rename_i ch hp hd
    split
    · exact .inr (.inl ⟨ch, hp, hd, ‹_›, rfl⟩)
    · exact .inl ⟨ch, hp, hd, by omega, rfl⟩
  · rename_i h
    refine .inr (.inr ⟨?_, rfl⟩)
    by_cases hp : c.phase = .low
    · cases hd : c.sdaDue with
      | none => exact .inr rfl
      | some ch => exact absurd hd (h ch hp)
    · exact .inl hp

/-- One controller-clock cycle: a stretched HIGH, a count, a START that may not begin, or the next phase. -/
theorem clockTick_cases (s : State) :
    ((s.ctrl.phase = .high ∧ cycleSclLevel s = false) ∧ clockTick s = s) ∨
    (¬ (s.ctrl.phase = .high ∧ cycleSclLevel s = false) ∧ 1 < s.ctrl.cnt.toNat ∧
      clockTick s = { s with ctrl := { s.ctrl with
        cnt := s.ctrl.cnt - 1, sdaLine := (sdaTick s.ctrl).1, sdaDue := (sdaTick s.ctrl).2 } }) ∨
    (¬ (s.ctrl.phase = .high ∧ cycleSclLevel s = false) ∧ s.ctrl.cnt.toNat ≤ 1 ∧ startWaits s = true ∧
      clockTick s = s) ∨
    (¬ (s.ctrl.phase = .high ∧ cycleSclLevel s = false) ∧ s.ctrl.cnt.toNat ≤ 1 ∧ startWaits s = false ∧
      clockTick s = enterNextPhase s) := by
  unfold clockTick
  split
  · exact .inl ⟨‹_›, rfl⟩
  · split
    · exact .inr (.inl ⟨‹_›, ‹_›, rfl⟩)
    · split
      · exact .inr (.inr (.inl ⟨‹_›, by omega, ‹_›, rfl⟩))
      · exact .inr (.inr (.inr ⟨‹_›, by omega, eq_false_of_ne_true ‹_›, rfl⟩))

/-- When a START waits: an IDLE with START_HOLD to come, and a wire at 0 or another master on the bus. -/
theorem startWaits_iff (s : State) : startWaits s = true ↔
    (s.ctrl.phase = .idle ∧ s.ctrl.segments.head?.map Segment.phase = some .startHold) ∧
      (cycleSclLevel s = false ∨ cycleSdaLevel s = false ∨ anotherHolds s = true) := by
  simp [startWaits, startDue, or_assoc]

/-- In HIGH on a connected bus SCL reads 0 exactly where a target stretches the clock (70_reset_and_hazards.md
R730, R735). -/
theorem cycleSclLevel_high (s : State) (hw : wired s = true) (hp : s.ctrl.phase = .high) :
    cycleSclLevel s = !s.wires.envSclLow := by
  have h : wired (cycleOutputs s) = true := hw
  rw [cycleSclLevel, sclLevel_of_wired _ _ h]
  simp [cycleOutputs, phaseSclLow, hp]

/-- A cycle of a stretch changes nothing (70_reset_and_hazards.md R735). -/
theorem clockTick_stretched (s : State) (hw : wired s = true) (hp : s.ctrl.phase = .high)
    (he : s.wires.envSclLow = true) : clockTick s = s := by
  have h : cycleSclLevel s = false := by rw [cycleSclLevel_high s hw hp, he]; rfl
  exact if_pos ⟨hp, h⟩

/-- The next phase: the next segment's, else LOW while the bus is held and IDLE while it is not. -/
theorem enterNextPhase_cases (s : State) :
    ∃ g rest, (s.ctrl.segments = g :: rest ∨ s.ctrl.segments = [] ∧ rest = [] ∧ g = restSegment s) ∧
      enterNextPhase s = enterSegment g rest s := by
  unfold enterNextPhase
  cases s.ctrl.segments with
  | nil => exact ⟨_, [], .inr ⟨rfl, rfl, rfl⟩, rfl⟩
  | cons g rest => exact ⟨g, rest, .inl rfl, rfl⟩

/-- SDA as a phase begins: a LOW with no hold time left, a LOW with some, or a phase in which SDA is settled. -/
theorem enterSda_cases (t hold : Nat) (g : Segment) (c : Ctrl) :
    let d := ((phaseSda g.phase).or g.sda).getD sdaOpen
    let target := if (sdaNow c).targetLow = d.targetLow then d.targetLow else none
    (g.phase = .low ∧ holdLeft hold c = 0 ∧
      enterSda t hold g c = ({ ctrlLow := d.ctrlLow, targetLow := target }, none)) ∨
    (g.phase = .low ∧ 0 < holdLeft hold c ∧
      enterSda t hold g c = ({ ctrlLow := (sdaNow c).ctrlLow, targetLow := target },
        some { after := holdLeft hold c, ctrlLow := d.ctrlLow })) ∨
    (g.phase ≠ .low ∧ enterSda t hold g c = (settledDrive t d, none)) := by
  intro d target
  unfold enterSda
  by_cases h : g.phase = .low
  · by_cases k : holdLeft hold c = 0
    · exact .inl ⟨h, k, by rw [if_pos h, if_pos k]⟩
    · exact .inr (.inl ⟨h, Nat.pos_of_ne_zero k, by rw [if_pos h, if_neg k]⟩)
  · exact .inr (.inr ⟨h, by rw [if_neg h]⟩)

/-- SCL rises at the end of a bit's LOW: SDA carries the bit from then on, with no change due. -/
theorem enterSda_bit (t hold n : Nat) (a b : Bool) (c : Ctrl) :
    enterSda t hold ⟨.high, some n, some ⟨some a, some b⟩⟩ c = (⟨some a, some b⟩, none) := rfl

/-- An event has one bit for each of its SCL periods (70_reset_and_hazards.md R736). -/
theorem wireBits_length (ev : BusEvent) : (wireBits ev).length = eventPeriods ev := by
  cases ev with
  | addr a ans => cases ans <;> rfl
  | tx d ans => cases ans <;> rfl
  | _ => rfl

/-- Each bit takes one LOW and one HIGH (70_reset_and_hazards.md R732). -/
theorem bitSegments_length (h l : Nat) (ds : List SdaDrive) :
    (bitSegments h l ds).length = 2 * ds.length := by
  induction ds with
  | nil => rfl
  | cons d rest ih => simp [bitSegments, ih]; omega

/-- The steps that run no instruction, by whose turn it is. -/
theorem localStep_cases (t : Turn) (s : State) :
    (localStep t s = s) ∨
    (t = .host ∧ ∃ st, currentStmt s.host = some st ∧ localStep t s = settle (localStmt st s)) ∨
    (t = .ctrl ∧ abortEnabled s = true ∧ localStep t s = settle (userAbort s)) ∨
    (t = .ctrl ∧ popEnabled s = true ∧ localStep t s = settle (popCommand s)) ∨
    (∃ e, t = .env e ∧ envEnabled e s = true ∧ localStep t s = settle (envEffect e s)) ∨
    (∃ i, t = .rst i ∧ releaseEnabled i s = true ∧ localStep t s = settle (release i s)) ∨
    (t = .clk ∧ localStep t s = clkLocal s) := by
  cases t with
  | host =>
    simp only [localStep, hostLocal]
    split
    · rename_i st h
      exact .inr (.inl ⟨trivial, st, h, rfl⟩)
    · exact .inl rfl
  | ctrl =>
    simp only [localStep, ctrlLocal]
    cases ha : abortEnabled s
    · cases hp : popEnabled s
      · exact .inl (by simp)
      · simp
    · simp
  | env e =>
    simp only [localStep, envLocal]
    cases h : envEnabled e s
    · exact .inl (by simp)
    · exact .inr (.inr (.inr (.inr (.inl ⟨e, rfl, h, by simp⟩))))
  | rst i =>
    simp only [localStep, rstLocal]
    cases h : releaseEnabled i s
    · exact .inl (by simp)
    · exact .inr (.inr (.inr (.inr (.inr (.inl ⟨i, rfl, h, by simp⟩)))))
  | clk => exact .inr (.inr (.inr (.inr (.inr (.inr ⟨rfl, rfl⟩)))))

end Sys2Proof.Laws
end

