-- ==== Sys2Proof/Tests/Slice0.lean ====
section
/-! SUPPORT. The model's own tests: the smoke test of WellFormed; one word for every row of the opcode table, written out
from the spec's encoding of it; vectors of 95_test_vectors.md, one step each; and for every statement with
hypotheses a state that meets them. -/

namespace Sys2Proof.Tests

open Sys2Proof Sys2Proof.Machine Sys2Proof.Safety

/-! ### WellFormed: a pin index above 29 is refused (30_encoding.md R162) -/

theorem test_wf_rdGpioStatus : (Instr.rdGpioStatus 30).wf = false ∧ (Instr.rdGpioStatus 29).wf = true := by decide
theorem test_wf_rdGpioCtrl : (Instr.rdGpioCtrl 31).wf = false ∧ (Instr.rdGpioCtrl 0).wf = true := by decide
theorem test_wf_wrGpioCtrl :
    (Instr.wrGpioCtrl 30 .normal 3).wf = false ∧ (Instr.wrGpioCtrl 29 .clrBits 3).wf = true := by decide
theorem test_wf_rdPadGpio : (Instr.rdPadGpio 30).wf = false ∧ (Instr.rdPadGpio 29).wf = true := by decide
theorem test_wf_wrPadGpio :
    (Instr.wrPadGpio 31 .setBits 0).wf = false ∧ (Instr.wrPadGpio 29 .setBits 0).wf = true := by decide

/-! ### Decoding: one word for every row of spec/opcode_table.json (30_encoding.md R151, R155 to R160) -/

theorem test_decode_rdIcCon : decode (.acc 4 0x040044000 0x0) = .ok .rdIcCon := by decide
theorem test_decode_wrIcCon :
    decode (.acc 4 0x140045000 0xFFFFFFFF) = .ok (.wrIcCon .xorBits 0xFFFFFFFF) := by decide
theorem test_decode_rdIcTar : decode (.acc 4 0x040044004 0x0) = .ok .rdIcTar := by decide
theorem test_decode_wrIcTar :
    decode (.acc 4 0x140047004 0x80000001) = .ok (.wrIcTar .clrBits 0x80000001) := by decide
theorem test_decode_rdIcSar : decode (.acc 4 0x040044008 0x0) = .ok .rdIcSar := by decide
theorem test_decode_wrIcSar : decode (.acc 4 0x140045008 0x0) = .ok (.wrIcSar .xorBits 0x0) := by decide
theorem test_decode_rdIcDataCmd : decode (.acc 4 0x040044010 0x0) = .ok .rdIcDataCmd := by decide
theorem test_decode_wrIcDataCmd : decode (.acc 4 0x140044010 0x2AE) = .ok (.wrIcDataCmd 0x2AE) := by decide
theorem test_decode_rdIcSsSclHcnt : decode (.acc 4 0x040044014 0x0) = .ok .rdIcSsSclHcnt := by decide
theorem test_decode_wrIcSsSclHcnt :
    decode (.acc 4 0x140045014 0x165) = .ok (.wrIcSsSclHcnt .xorBits 0x165) := by decide
theorem test_decode_rdIcSsSclLcnt : decode (.acc 4 0x040044018 0x0) = .ok .rdIcSsSclLcnt := by decide
theorem test_decode_wrIcSsSclLcnt :
    decode (.acc 4 0x140047018 0xFFFFFFFF) = .ok (.wrIcSsSclLcnt .clrBits 0xFFFFFFFF) := by decide
theorem test_decode_rdIcFsSclHcnt : decode (.acc 4 0x04004401C 0x0) = .ok .rdIcFsSclHcnt := by decide
theorem test_decode_wrIcFsSclHcnt :
    decode (.acc 4 0x14004501C 0x80000001) = .ok (.wrIcFsSclHcnt .xorBits 0x80000001) := by decide
theorem test_decode_rdIcFsSclLcnt : decode (.acc 4 0x040044020 0x0) = .ok .rdIcFsSclLcnt := by decide
theorem test_decode_wrIcFsSclLcnt :
    decode (.acc 4 0x140047020 0x0) = .ok (.wrIcFsSclLcnt .clrBits 0x0) := by decide
theorem test_decode_rdIcIntrStat : decode (.acc 4 0x04004402C 0x0) = .ok .rdIcIntrStat := by decide
theorem test_decode_rdIcIntrMask : decode (.acc 4 0x040044030 0x0) = .ok .rdIcIntrMask := by decide
theorem test_decode_wrIcIntrMask :
    decode (.acc 4 0x140046030 0x80000001) = .ok (.wrIcIntrMask .setBits 0x80000001) := by decide
theorem test_decode_rdIcRawIntrStat : decode (.acc 4 0x040044034 0x0) = .ok .rdIcRawIntrStat := by decide
theorem test_decode_rdIcRxTl : decode (.acc 4 0x040044038 0x0) = .ok .rdIcRxTl := by decide
theorem test_decode_wrIcRxTl :
    decode (.acc 4 0x140045038 0xFFFFFFFF) = .ok (.wrIcRxTl .xorBits 0xFFFFFFFF) := by decide
theorem test_decode_rdIcTxTl : decode (.acc 4 0x04004403C 0x0) = .ok .rdIcTxTl := by decide
theorem test_decode_wrIcTxTl :
    decode (.acc 4 0x14004703C 0x80000001) = .ok (.wrIcTxTl .clrBits 0x80000001) := by decide
theorem test_decode_rdIcClrIntr : decode (.acc 4 0x040044040 0x0) = .ok .rdIcClrIntr := by decide
theorem test_decode_rdIcClrRxUnder : decode (.acc 4 0x040044044 0x0) = .ok .rdIcClrRxUnder := by decide
theorem test_decode_rdIcClrRxOver : decode (.acc 4 0x040044048 0x0) = .ok .rdIcClrRxOver := by decide
theorem test_decode_rdIcClrTxOver : decode (.acc 4 0x04004404C 0x0) = .ok .rdIcClrTxOver := by decide
theorem test_decode_rdIcClrRdReq : decode (.acc 4 0x040044050 0x0) = .ok .rdIcClrRdReq := by decide
theorem test_decode_rdIcClrTxAbrt : decode (.acc 4 0x040044054 0x0) = .ok .rdIcClrTxAbrt := by decide
theorem test_decode_rdIcClrRxDone : decode (.acc 4 0x040044058 0x0) = .ok .rdIcClrRxDone := by decide
theorem test_decode_rdIcClrActivity : decode (.acc 4 0x04004405C 0x0) = .ok .rdIcClrActivity := by decide
theorem test_decode_rdIcClrStopDet : decode (.acc 4 0x040044060 0x0) = .ok .rdIcClrStopDet := by decide
theorem test_decode_rdIcClrStartDet : decode (.acc 4 0x040044064 0x0) = .ok .rdIcClrStartDet := by decide
theorem test_decode_rdIcClrGenCall : decode (.acc 4 0x040044068 0x0) = .ok .rdIcClrGenCall := by decide
theorem test_decode_rdIcEnable : decode (.acc 4 0x04004406C 0x0) = .ok .rdIcEnable := by decide
theorem test_decode_wrIcEnable :
    decode (.acc 4 0x14004406C 0xFFFFFFFF) = .ok (.wrIcEnable 0xFFFFFFFF) := by decide
theorem test_decode_rdIcStatus : decode (.acc 4 0x040044070 0x0) = .ok .rdIcStatus := by decide
theorem test_decode_rdIcTxflr : decode (.acc 4 0x040044074 0x0) = .ok .rdIcTxflr := by decide
theorem test_decode_rdIcRxflr : decode (.acc 4 0x040044078 0x0) = .ok .rdIcRxflr := by decide
theorem test_decode_rdIcSdaHold : decode (.acc 4 0x04004407C 0x0) = .ok .rdIcSdaHold := by decide
theorem test_decode_wrIcSdaHold :
    decode (.acc 4 0x14004507C 0xFFFFFFFF) = .ok (.wrIcSdaHold .xorBits 0xFFFFFFFF) := by decide
theorem test_decode_rdIcTxAbrtSource : decode (.acc 4 0x040044080 0x0) = .ok .rdIcTxAbrtSource := by decide
theorem test_decode_rdIcSlvDataNackOnly :
    decode (.acc 4 0x040044084 0x0) = .ok .rdIcSlvDataNackOnly := by decide
theorem test_decode_wrIcSlvDataNackOnly :
    decode (.acc 4 0x140044084 0x165) = .ok (.wrIcSlvDataNackOnly .normal 0x165) := by decide
theorem test_decode_rdIcDmaCr : decode (.acc 4 0x040044088 0x0) = .ok .rdIcDmaCr := by decide
theorem test_decode_wrIcDmaCr :
    decode (.acc 4 0x140046088 0xFFFFFFFF) = .ok (.wrIcDmaCr .setBits 0xFFFFFFFF) := by decide
theorem test_decode_rdIcDmaTdlr : decode (.acc 4 0x04004408C 0x0) = .ok .rdIcDmaTdlr := by decide
theorem test_decode_wrIcDmaTdlr :
    decode (.acc 4 0x14004408C 0x80000001) = .ok (.wrIcDmaTdlr .normal 0x80000001) := by decide
theorem test_decode_rdIcDmaRdlr : decode (.acc 4 0x040044090 0x0) = .ok .rdIcDmaRdlr := by decide
theorem test_decode_wrIcDmaRdlr : decode (.acc 4 0x140046090 0x0) = .ok (.wrIcDmaRdlr .setBits 0x0) := by decide
theorem test_decode_rdIcSdaSetup : decode (.acc 4 0x040044094 0x0) = .ok .rdIcSdaSetup := by decide
theorem test_decode_wrIcSdaSetup :
    decode (.acc 4 0x140044094 0x2AE) = .ok (.wrIcSdaSetup .normal 0x2AE) := by decide
theorem test_decode_rdIcAckGeneralCall : decode (.acc 4 0x040044098 0x0) = .ok .rdIcAckGeneralCall := by decide
theorem test_decode_wrIcAckGeneralCall :
    decode (.acc 4 0x140046098 0x165) = .ok (.wrIcAckGeneralCall .setBits 0x165) := by decide
theorem test_decode_rdIcEnableStatus : decode (.acc 4 0x04004409C 0x0) = .ok .rdIcEnableStatus := by decide
theorem test_decode_rdIcFsSpklen : decode (.acc 4 0x0400440A0 0x0) = .ok .rdIcFsSpklen := by decide
theorem test_decode_wrIcFsSpklen :
    decode (.acc 4 0x1400450A0 0x2AE) = .ok (.wrIcFsSpklen .xorBits 0x2AE) := by decide
theorem test_decode_rdIcClrRestartDet : decode (.acc 4 0x0400440A8 0x0) = .ok .rdIcClrRestartDet := by decide
theorem test_decode_rdIcCompParam1 : decode (.acc 4 0x0400440F4 0x0) = .ok .rdIcCompParam1 := by decide
theorem test_decode_rdIcCompVersion : decode (.acc 4 0x0400440F8 0x0) = .ok .rdIcCompVersion := by decide
theorem test_decode_rdIcCompType : decode (.acc 4 0x0400440FC 0x0) = .ok .rdIcCompType := by decide
theorem test_decode_rdResetsReset : decode (.acc 4 0x04000C000 0x0) = .ok .rdResetsReset := by decide
theorem test_decode_wrResetsReset :
    decode (.acc 4 0x14000F000 0x80000001) = .ok (.wrResetsReset .clrBits 0x80000001) := by decide
theorem test_decode_rdResetsWdsel : decode (.acc 4 0x04000C004 0x0) = .ok .rdResetsWdsel := by decide
theorem test_decode_wrResetsWdsel :
    decode (.acc 4 0x14000D004 0x0) = .ok (.wrResetsWdsel .xorBits 0x0) := by decide
theorem test_decode_rdResetsResetDone : decode (.acc 4 0x04000C008 0x0) = .ok .rdResetsResetDone := by decide
theorem test_decode_rdGpioStatus : decode (.acc 4 0x040014088 0x0) = .ok (.rdGpioStatus 17) := by decide
theorem test_decode_rdGpioCtrl : decode (.acc 4 0x040014024 0x0) = .ok (.rdGpioCtrl 4) := by decide
theorem test_decode_wrGpioCtrl :
    decode (.acc 4 0x1400150E4 0x165) = .ok (.wrGpioCtrl 28 .xorBits 0x165) := by decide
theorem test_decode_rdVoltageSelect : decode (.acc 4 0x04001C000 0x0) = .ok .rdVoltageSelect := by decide
theorem test_decode_wrVoltageSelect :
    decode (.acc 4 0x14001F000 0xFFFFFFFF) = .ok (.wrVoltageSelect .clrBits 0xFFFFFFFF) := by decide
theorem test_decode_rdPadGpio : decode (.acc 4 0x04001C048 0x0) = .ok (.rdPadGpio 17) := by decide
theorem test_decode_wrPadGpio :
    decode (.acc 4 0x14001D014 0x80000001) = .ok (.wrPadGpio 4 .xorBits 0x80000001) := by decide
theorem test_decode_rdSioCpuid : decode (.acc 4 0x0D0000000 0x0) = .ok .rdSioCpuid := by decide
theorem test_decode_rdSioGpioIn : decode (.acc 4 0x0D0000004 0x0) = .ok .rdSioGpioIn := by decide
theorem test_decode_rdSioGpioOut : decode (.acc 4 0x0D0000010 0x0) = .ok .rdSioGpioOut := by decide
theorem test_decode_wrSioGpioOut : decode (.acc 4 0x1D0000010 0x2AE) = .ok (.wrSioGpioOut 0x2AE) := by decide
theorem test_decode_rdSioGpioOutSet : decode (.acc 4 0x0D0000014 0x0) = .ok .rdSioGpioOutSet := by decide
theorem test_decode_wrSioGpioOutSet :
    decode (.acc 4 0x1D0000014 0x165) = .ok (.wrSioGpioOutSet 0x165) := by decide
theorem test_decode_rdSioGpioOutClr : decode (.acc 4 0x0D0000018 0x0) = .ok .rdSioGpioOutClr := by decide
theorem test_decode_wrSioGpioOutClr :
    decode (.acc 4 0x1D0000018 0xFFFFFFFF) = .ok (.wrSioGpioOutClr 0xFFFFFFFF) := by decide
theorem test_decode_rdSioGpioOutXor : decode (.acc 4 0x0D000001C 0x0) = .ok .rdSioGpioOutXor := by decide
theorem test_decode_wrSioGpioOutXor :
    decode (.acc 4 0x1D000001C 0x80000001) = .ok (.wrSioGpioOutXor 0x80000001) := by decide
theorem test_decode_rdSioGpioOe : decode (.acc 4 0x0D0000020 0x0) = .ok .rdSioGpioOe := by decide
theorem test_decode_wrSioGpioOe : decode (.acc 4 0x1D0000020 0x0) = .ok (.wrSioGpioOe 0x0) := by decide
theorem test_decode_rdSioGpioOeSet : decode (.acc 4 0x0D0000024 0x0) = .ok .rdSioGpioOeSet := by decide
theorem test_decode_wrSioGpioOeSet :
    decode (.acc 4 0x1D0000024 0x2AE) = .ok (.wrSioGpioOeSet 0x2AE) := by decide
theorem test_decode_rdSioGpioOeClr : decode (.acc 4 0x0D0000028 0x0) = .ok .rdSioGpioOeClr := by decide
theorem test_decode_wrSioGpioOeClr :
    decode (.acc 4 0x1D0000028 0x165) = .ok (.wrSioGpioOeClr 0x165) := by decide
theorem test_decode_rdSioGpioOeXor : decode (.acc 4 0x0D000002C 0x0) = .ok .rdSioGpioOeXor := by decide
theorem test_decode_wrSioGpioOeXor :
    decode (.acc 4 0x1D000002C 0xFFFFFFFF) = .ok (.wrSioGpioOeXor 0xFFFFFFFF) := by decide
theorem test_decode_cmdW : decode (.cmdw 0x000000AE) = .ok (.cmdW 0xAE) := by decide
theorem test_decode_cmdR : decode (.cmdw 0x000001AE) = .ok (.cmdR 0xAE) := by decide
theorem test_decode_cmdWStop : decode (.cmdw 0x000002AE) = .ok (.cmdWStop 0xAE) := by decide
theorem test_decode_cmdRStop : decode (.cmdw 0x000003AE) = .ok (.cmdRStop 0xAE) := by decide
theorem test_decode_cmdWRestart : decode (.cmdw 0x000004AE) = .ok (.cmdWRestart 0xAE) := by decide
theorem test_decode_cmdRRestart : decode (.cmdw 0x000005AE) = .ok (.cmdRRestart 0xAE) := by decide
theorem test_decode_cmdWRestartStop : decode (.cmdw 0x000006AE) = .ok (.cmdWRestartStop 0xAE) := by decide
theorem test_decode_cmdRRestartStop : decode (.cmdw 0x000007AE) = .ok (.cmdRRestartStop 0xAE) := by decide

/-! ### Refused accesses (95_test_vectors.md M1 to M16, M25) -/

theorem test_refuse_M1 : decode (.acc 4 0x04004400C 0) = .error .unmapped := by decide
theorem test_refuse_M3 : decode (.acc 4 0x140044070 0) = .error .writeRo := by decide
theorem test_refuse_M5 : decode (.acc 4 0x040046000 0) = .error .aliasRead := by decide
theorem test_refuse_M6 : decode (.acc 4 0x14004606C 1) = .error .aliasSideEffect := by decide
theorem test_refuse_M12 : decode (.acc 4 0x040044002 0) = .error .widthOrAlign := by decide
theorem test_refuse_M13 : decode (.acc 1 0x140044010 0xAE) = .error .widthOrAlign := by decide
theorem test_refuse_M14 : decode (.acc 4 0x04001C07C 0) = .error .unmapped := by decide
theorem test_refuse_M15 : decode (.acc 4 0x0400140F4 0) = .error .unmapped := by decide
theorem test_refuse_M16 : decode (.acc 4 0x0D0000008 0) = .error .unmapped := by decide
theorem test_refuse_M25 : decode (.acc 4 0x040050000 0) = .error .unmapped := by decide

/-! ### Vectors of 95_test_vectors.md -/

/-- Every block released, at its reset values (LAUNCH_RESETS = 0). -/
def released : State := State.launch 0

/-- S_P1 (95_test_vectors.md P1) with IC_TAR = 0x3C: pins 4 and 5 carry the bus, the divider for 125 MHz, the
controller enabled and idle. -/
def ready : State :=
  let s := setPinCtrl (setPinCtrl released 4 { PinCtrl.reset with funcsel := 3 }) 5 { PinCtrl.reset with funcsel := 3 }
  let t := setPad (setPad s 4 (padOfWord 0x5A)) 5 (padOfWord 0x5A)
  { t with
    i2c := { t.i2c with
      con := icConOfWord 0x165, tar := { t.i2c.tar with addr := 0x3C }
      fsHcnt := 126, fsLcnt := 187, fsSpklen := 11, sdaTxHold := 38, intrMask := 0
      enable := { t.i2c.enable with enable := true } }
    ctrl := { t.ctrl with icEn := true } }

/-- `ready` with a command in hand and the environment's answers and bytes to come. -/
def inHand (w : Word) (answers : List Answer) (bytes : List Byte) : State :=
  { ready with
    ctrl := { ready.ctrl with shift := some (cmdOfWord w) }
    script := { agenda := [], answers := answers, bytes := bytes } }

/-- The bus held after a byte sent (F3), or after a byte received (F16), with a command in hand. -/
def held (w : Word) (d : Dir) (answers : List Answer) (bytes : List Byte) : State :=
  let s := inHand w answers bytes
  { s with ctrl := { s.ctrl with owned := true, sclOe := true, dir := d, rxAckPending := d == .read } }

/-- A test on the state an instruction leaves. -/
def after (i : Instr) (s : State) (p : State → Bool) : Bool :=
  match exec i s with
  | .next t => p t
  | .fault _ => false
  | .refused _ => false

/-- The bus events an instruction added. -/
def events (t : State) : List BusEvent := t.trace.map (fun e => e.event)

theorem test_M10 : after (.wrIcIntrMask .xorBits 0x0FF) released (fun t => t.i2c.intrMask == 0x800) = true := by
  decide
theorem test_M11 : after (.wrIcCon .setBits 0x10) ready (fun t => t.i2c == ready.i2c) = true := by decide
theorem test_M21 : after .rdIcCon State.reset (fun t => t.marks.refused == [.blockInReset]) = true := by decide
theorem test_X1 : after (.wrGpioCtrl 4 .normal 0) released (fun t => t.marks.refused == [.funcselReserved]) = true := by
  decide
theorem test_X4 : after (.wrGpioCtrl 21 .normal 8) released (fun t => (pinCtrlOf t 21).funcsel == 8) = true := by
  decide
theorem test_X5 : after (.wrGpioCtrl 0 .normal 3) ready (fun t => t.marks.refused == [.i2c0SignalOnTwoPins]) = true := by
  decide
theorem test_X8 : after (.wrGpioCtrl 2 .normal 3) ready (fun t => (pinCtrlOf t 2).funcsel == 3) = true := by
  decide
theorem test_X10 : after (.wrPadGpio 4 .normal 0x5A) released
    (fun t => padOf t 4 == ⟨false, true, false, true, 1, true, false⟩) = true := by decide
theorem test_X18 : after (.rdGpioStatus 4)
    { released with
      io := (setPinCtrl released 4 { PinCtrl.reset with funcsel := 5 }).io
      sio := { gpioOut := 0x10, gpioOe := 0x10 }, wires := { released.wires with envSdaLow := true } }
    (fun t => t.marks.faulted == [.contention]) = true := by decide
theorem test_X24 : after (.wrSioGpioOutClr 0x10) { released with sio := { gpioOut := 0x30, gpioOe := 0 } }
    (fun t => t.sio.gpioOut == 0x20) = true := by decide
theorem test_X26 : after (.wrResetsReset .xorBits 8)
    { ready with resets := { reset := 0x1FFFED7, wdsel := 0, done := 0x128 } }
    (fun t => t.resets.reset == 0x1FFFEDF && t.resets.done == 0x120 && t.i2c == I2cRegs.reset) = true := by decide
theorem test_X30 : i2cPinOk ready 4 = true ∧ wired ready = true ∧ wired released = false := by decide
theorem test_K2 : after (.wrIcCon .normal 0x161) released (fun t => icConWord t.i2c.con == 0x165) = true := by
  decide
theorem test_K8 : after (.wrIcFsSclHcnt .normal 0) released (fun t => t.i2c.fsHcnt == 6) = true := by decide
theorem test_K10 : after (.wrIcSsSclHcnt .normal 0x12345) released (fun t => t.i2c.ssHcnt == 0x2345) = true := by
  decide
theorem test_K12 : after (.wrIcSdaHold .normal 0x00050026) released
    (fun t => t.i2c.sdaTxHold == 0x26 && t.i2c.sdaRxHold == 5) = true := by decide
theorem test_K15 : after (.wrIcTxTl .normal 16) released (fun t => t.marks.refused == [.thresholdRange]) = true := by
  decide
theorem test_K24 : after (.wrIcEnable 1)
    { ready with
      ctrl := { ready.ctrl with icEn := false }, i2c := { ready.i2c with sdaTxHold := 185 } }
    (fun t => t.marks.refused == [.enableSdaHoldTooLong]) = true := by decide
theorem test_K25 : after (.wrIcEnable 1)
    { ready with
      ctrl := { ready.ctrl with icEn := false }, i2c := { ready.i2c with sdaTxHold := 184 } }
    (fun t => t.ctrl.icEn) = true := by decide
theorem test_Q2 : icStatus ready = 0x06 := by decide
theorem test_Q18 : icStatus { ready with ctrl := { ready.ctrl with owned := true } } = 0x27 := by decide
theorem test_Q1 : rawIntrStat ready = 0x010 := by decide
theorem test_Q27 : after (.wrIcDataCmd 0x2AE) ready
    (fun t => t.ctrl.txq == [{ cmd := false, stop := true, restart := false, dat := 0xAE }]) = true := by decide
theorem test_F1 : after (.cmdWStop 0xAE) (inHand 0x2AE [.ack, .ack] []) (fun t =>
    events t == [.start, .addr 0x78 .ack, .tx 0xAE .ack, .stop] && !t.ctrl.owned) = true := by decide
theorem test_F3 : after (.cmdW 0x00) (inHand 0x000 [.ack, .ack] []) (fun t =>
    events t == [.start, .addr 0x78 .ack, .tx 0 .ack] && t.ctrl.owned) = true := by decide
theorem test_F5 : after (.cmdWRestart 0xAE) (inHand 0x4AE [.ack, .ack] []) (fun t =>
    events t == [.start, .addr 0x78 .ack, .tx 0xAE .ack]) = true := by decide
theorem test_F6 : after (.cmdWRestartStop 0xAB) (held 0x6AB .write [.ack, .ack] []) (fun t =>
    events t == [.restart, .addr 0x78 .ack, .tx 0xAB .ack, .stop]) = true := by decide
theorem test_F8 : after (.cmdW 0x00)
    { inHand 0 [.nack] [] with ctrl := { (inHand 0 [.nack] []).ctrl with txq := [cmdOfWord 0x11, cmdOfWord 0x222] } }
    (fun t => events t == [.start, .addr 0x78 .nack, .stop] && t.i2c.abrtSource == 1 && t.i2c.txFlushCnt == 2 &&
      t.ctrl.txq == [] && t.ctrl.flushHold) = true := by decide
theorem test_F10 : after (.cmdWStop 0xAE) (inHand 0x2AE [.lost] []) (fun t =>
    events t == [.start, .addr 0x78 .lost] && t.i2c.abrtSource == 0x1000 && t.wires.otherBusy &&
      !t.ctrl.raw.stopDet) = true := by decide
theorem test_F13 : after (.cmdRStop 0) (inHand 0x300 [.ack] [0x5A]) (fun t =>
    events t == [.start, .addr 0x79 .ack, .rx 0x5A, .mnack, .stop] && t.ctrl.rxq == [0x5A]) = true := by decide
theorem test_F14 : after (.cmdR 0) (held 0x100 .write [.ack] [0xA5]) (fun t =>
    events t == [.restart, .addr 0x79 .ack, .rx 0xA5] && t.ctrl.rxAckPending) = true := by decide
theorem test_F16 : after (.cmdRRestart 0) (held 0x500 .read [.ack] [0x02]) (fun t =>
    events t == [.mnack, .restart, .addr 0x79 .ack, .rx 0x02]) = true := by decide
theorem test_F14_mack : after (.cmdRRestartStop 0) (held 0x700 .read [.ack] [0x02]) (fun t =>
    events t == [.mnack, .restart, .addr 0x79 .ack, .rx 0x02, .mnack, .stop]) = true := by decide
/-- 0x78 is 01111000, sent most significant bit first; the target pulls the ACK slot low (30_encoding.md R172). -/
theorem test_wireBits_address :
    (wireBits (.addr 0x78 .ack)).map SdaDrive.ctrlLow =
      [true, false, false, false, false, true, true, true, false].map some ∧
    (wireBits (.addr 0x78 .ack)).map SdaDrive.targetLow =
      [false, false, false, false, false, false, false, false, true].map some := by decide
theorem test_W5 : divider 125000000 400000 = ⟨313, 126, 187, 11, 38⟩ := by decide
theorem test_E5 : errorKind 0x00001 = .nakAddress ∧ errorKind 0x00008 = .nakData ∧
    errorKind 0x01000 = .arbitrationLost ∧ errorKind 0x10000 = .busError := by decide

/-! ### The host's two questions, on one word each -/

theorem test_table_acc : decodeTableWord 65 ((0x2AE <<< 33) ||| 0x140044010) = some (.wrIcDataCmd 0x2AE) := by
  decide
theorem test_table_cmdw : decodeTableWord 32 0x3AE = some (.cmdRStop 0xAE) := by decide
theorem test_fetch_acc : (match step (State.reset.withFetchWord 65 ((0x30 <<< 33) ||| 0x1D0000010)) with
    | .next t => decide (t.sio.gpioOut = 0x30 ∧ t.host.pc = 1)
    | .fault _ => false
    | .refused _ => false) = true := by decide
theorem test_fetch_cmdw : fetch .ctrl (State.reset.withFetchWord 32 0x3AE) = some (.cmdw 0x3AE) ∧
    nextTurn (State.reset.withFetchWord 32 0x3AE) = .ctrl := by decide

/-! ### Witnesses: for every statement with hypotheses, values that meet them -/

theorem witness_DecodeEncodeRoundTrip : (Instr.wrPadGpio 29 .clrBits 0xFFFFFFFF).wf = true := by decide

theorem witness_DecodedInstructionsAreWellFormed :
    decode (.acc 4 0x1400170EC 7) = .ok (.wrGpioCtrl 29 .clrBits 7) := by decide

/-- Widths around 4 and low address bits 1 and 3. -/
theorem witness_WrongWidthOrAlignmentRefused :
    decode (.acc 4 0x140044010 0xAE) = .ok (.wrIcDataCmd 0xAE) ∧
    (3 ≠ 4 ∧ 5 ≠ 4 ∧ (0x140044011#33).extractLsb' 0 2 ≠ 0#2 ∧ (0x140044013#33).extractLsb' 0 2 ≠ 0#2) := by
  decide

/-- An access that no row matches does not decode. -/
theorem not_decodes {w : Bool} {a v : Word} {r : Reason}
    (h : decode (.acc 4 (BitVec.ofBool w ++ a) v) = .error r) : ¬ AccessDecodes w a v := by
  rintro ⟨i, hi⟩
  rw [h] at hi
  cases hi

/-- ALIAS_READ (M5), UNMAPPED reads in a block (M1) and in SIO at 0xD0001004. -/
theorem witness_RefusalReasons_read :
    (¬ AccessDecodes false 0x40046000 0 ∧ AtAlias 0x40046000 ∧ AccessDecodes false (atAliasZero 0x40046000) 0) ∧
    (¬ AccessDecodes false 0x4004400C 0 ∧ ¬ AtAlias 0x4004400C) ∧
    (¬ AccessDecodes false 0xD0001004 0 ∧ ¬ AtAlias 0xD0001004) :=
  ⟨⟨not_decodes (r := .aliasRead) (by decide), by unfold AtAlias; decide, ⟨.rdIcCon, by decide⟩⟩,
    ⟨not_decodes (r := .unmapped) (by decide), by unfold AtAlias; decide⟩,
    ⟨not_decodes (r := .unmapped) (by decide), by unfold AtAlias; decide⟩⟩

/-- A write of IC_STATUS is WRITE_RO at every alias, and a write between registers UNMAPPED (20_memory.md R103). -/
theorem test_refuse_writeRo_alias : decode (.acc 4 0x140045070 0) = .error .writeRo ∧
    decode (.acc 4 0x14000F008 0) = .error .writeRo ∧ decode (.acc 4 0x14004700C 0) = .error .unmapped := by decide

/-- ALIAS_SIDE_EFFECT (M6), WRITE_RO at alias 0 (M3) and at alias 1, and an UNMAPPED write. -/
theorem witness_RefusalReasons_write :
    (¬ AccessDecodes true 0x4004606C 1 ∧ AtAlias 0x4004606C ∧ AccessDecodes true (atAliasZero 0x4004606C) 1) ∧
    (¬ AccessDecodes true 0x40044070 0 ∧ ¬ AtAlias 0x40044070 ∧ AccessDecodes false 0x40044070 0) ∧
    (¬ AccessDecodes true 0x40045070 0 ∧ AtAlias 0x40045070 ∧ AccessDecodes false (atAliasZero 0x40045070) 0) ∧
    (¬ AccessDecodes true 0x4004400C 0 ∧ ¬ AtAlias 0x4004400C ∧ ¬ AccessDecodes false 0x4004400C 0) :=
  ⟨⟨not_decodes (r := .aliasSideEffect) (by decide), by unfold AtAlias; decide, ⟨.wrIcEnable 1, by decide⟩⟩,
    ⟨not_decodes (r := .writeRo) (by decide), by unfold AtAlias; decide, ⟨.rdIcStatus, by decide⟩⟩,
    ⟨not_decodes (r := .writeRo) (by decide), by unfold AtAlias; decide, ⟨.rdIcStatus, by decide⟩⟩,
    ⟨not_decodes (r := .unmapped) (by decide), by unfold AtAlias; decide,
      not_decodes (r := .unmapped) (by decide)⟩⟩

/-- A word of each class, bits 31:11 all set. -/
theorem witness_CommandWordClasses :
    (0xFFFFF8FF#32).extractLsb' 8 3 = 0#3 ∧ (0xFFFFF9FF#32).extractLsb' 8 3 = 1#3 ∧
    (0xFFFFFAFF#32).extractLsb' 8 3 = 2#3 ∧ (0xFFFFFBFF#32).extractLsb' 8 3 = 3#3 ∧
    (0xFFFFFCFF#32).extractLsb' 8 3 = 4#3 ∧ (0xFFFFFDFF#32).extractLsb' 8 3 = 5#3 ∧
    (0xFFFFFEFF#32).extractLsb' 8 3 = 6#3 ∧ (0xFFFFFFFF#32).extractLsb' 8 3 = 7#3 := by decide

/-- A HOST about to take statement `st`, whose last access returned `v`. -/
def atStmt (st : Stmt) (v : Option Word) : State :=
  { ready with
    host := { ready.host with prog := [st], readData := v }
    script := { ready.script with agenda := [.host] } }

theorem witness_StepRunsDecodedInstruction :
    (let s := loadAccess 4 0x140044004 0x3D ready
     fetch (nextTurn s) (beginTurn s) = some (.acc 4 0x140044004 0x3D) ∧
     decode (.acc 4 0x140044004 0x3D) = .ok (.wrIcTar .normal 0x3D)) ∧
    currentStmt (atStmt (.rd 4 0x40044004 (some 0)) (some 7)).host = some (.rd 4 0x40044004 (some 0)) ∧
    currentStmt (atStmt (.wr 4 0x40044004 (.temp 0)) none).host = some (.wr 4 0x40044004 (.temp 0)) ∧
    (currentStmt (atStmt (.poll 0x40044034 0x10 0x10) (some 0x10)).host =
        some (.poll 0x40044034 0x10 0x10) ∧
      (atStmt (.poll 0x40044034 0x10 0x10) (some 0x10)).host.readData = some 0x10) ∧
    (currentStmt (atStmt (.pollne 0x40044034 0x10 0x10) (some 0x10)).host =
        some (.pollne 0x40044034 0x10 0x10) ∧
      (atStmt (.pollne 0x40044034 0x10 0x10) (some 0x10)).host.readData = some 0x10) ∧
    (let s := inHand 0x2AE [.ack, .ack] []
     s.ctrl.shift = some (cmdOfWord 0x2AE) ∧ xferEnabled (cmdOfWord 0x2AE) s = true) := by decide

theorem witness_UndecodedAccessOnlyMarks :
    let s := loadAccess 4 0x140044070 0 ready
    fetch (nextTurn s) (beginTurn s) = some (.acc 4 0x140044070 0) ∧
    decode (.acc 4 0x140044070 0) = .error .writeRo := by decide

theorem witness_StepKeepsInvariant :
    inv (held 0x2AE .write [.ack] []) = true ∧ ∃ t, step (held 0x2AE .write [.ack] []) = .next t :=
  ⟨by decide, Laws.step_next _⟩

/-- A held bus whose trace is F3's, at a step that leaves RESETS alone. -/
theorem witness_StepKeepsFrameGrammar :
    let s := { held 0x2AE .write [.ack] [] with
      trace := onBus [.start, .addr 0x78 .ack, .tx 0 .ack], script := ⟨[.env .eSclLow], [], []⟩ }
    frameOk s = true ∧ s.ctrl.owned = true ∧
      ∃ t, step s = .next t ∧ t.resets.reset.getLsbD 3 = s.resets.reset.getLsbD 3 := by
  refine ⟨by decide, by decide, _, rfl, ?_⟩
  obtain ⟨b, fs, -, h⟩ := Laws.settle_eq (envEffect .eSclLow (beginTurn
    { held 0x2AE .write [.ack] [] with
      trace := onBus [.start, .addr 0x78 .ack, .tx 0 .ack], script := ⟨[.env .eSclLow], [], []⟩ }))
  show (settle _).resets.reset.getLsbD 3 = _
  rw [h]
  rfl

theorem witness_TraceAndMarksOnlyGrow : ∃ t, step (inHand 0x2AE [] []) = .next t := Laws.step_next _

theorem witness_HeldBlockRefusesAccess :
    (decode (.acc 4 0x040044000 0) = .ok .rdIcCon ∧ (0x040044000#33).extractLsb' 14 18 = 0x10011#18 ∧
      State.reset.resets.done.getLsbD 3 = false) ∧
    (decode (.acc 4 0x0400140EC 0) = .ok (.rdGpioCtrl 29) ∧
      (0x0400140EC#33).extractLsb' 14 18 = 0x10005#18 ∧ State.reset.resets.done.getLsbD 5 = false) ∧
    (decode (.acc 4 0x04001C004 0) = .ok (.rdPadGpio 0) ∧
      (0x04001C004#33).extractLsb' 14 18 = 0x10007#18 ∧ State.reset.resets.done.getLsbD 8 = false) ∧
    (decode (.acc 4 0x14000F000 8) = .ok (.wrResetsReset .clrBits 8) ∧
      (0x14000F000#33).extractLsb' 14 18 = 0x10003#18) ∧
    (decode (.acc 4 0x1D000002C 8) = .ok (.wrSioGpioOeXor 8) ∧
      (0x1D000002C#33).extractLsb' 12 20 = 0xD0000#20) := by decide

/-- The state after an abort, its flush held. -/
def flushed : State := { ready with ctrl := { ready.ctrl with flushHold := true } }

theorem witness_FlushHoldEndsOnlyByClear : flushed.ctrl.flushHold = true ∧ flushed.ctrl.txq = [] ∧
    after .rdIcClrTxAbrt flushed (fun t => !t.ctrl.flushHold) = true ∧
    after (.wrIcDataCmd 1) flushed (fun t => t.ctrl.flushHold) = true := by decide

/-- A full TXQ and a full RXQ. -/
def full : State := { ready with ctrl := { ready.ctrl with
  txq := List.replicate 16 (cmdOfWord 0xAE), rxq := List.replicate 16 0x11#8 } }

theorem witness_RawBitsSetOnlyByTheirCauses :
    ready.ctrl.raw = RawBits.none ∧ mstActivity ready = false ∧
    after .rdIcDataCmd ready (fun t => t.ctrl.raw.rxUnder) = true ∧
    after (.wrIcDataCmd 0xAE) full (fun t => t.ctrl.raw.txOver) = true ∧
    after (.cmdRStop 0) { inHand 0x300 [.ack] [7] with ctrl := { (inHand 0x300 [] []).ctrl with rxq := full.ctrl.rxq } }
      (fun t => t.ctrl.raw.rxOver && t.ctrl.raw.startDet && t.ctrl.raw.stopDet) = true ∧
    after (.cmdWStop 0) (inHand 0x200 [.nack] []) (fun t => t.ctrl.raw.txAbrt) = true := by decide

/-- The premise of the statements about reads and writes of I2C0, and of those that hold while disabled. -/
theorem witness_i2c_released : released.resets.done.getLsbD 3 = true ∧ released.ctrl.icEn = false := by decide

theorem witness_StatusReads : full.resets.done.getLsbD 3 = true ∧ full.ctrl.txq.length = 16 ∧
    full.ctrl.rxq.length = 16 := by decide

theorem witness_DataCmdAccesses : ready.resets.done.getLsbD 3 = true ∧ ready.ctrl.icEn = true ∧
    ready.ctrl.flushHold = false ∧ ready.ctrl.rxq = [] ∧
    (flushed.ctrl.icEn = true ∧ flushed.ctrl.flushHold = true) ∧
    (full.ctrl.icEn = true ∧ full.ctrl.flushHold = false ∧ full.ctrl.txq.length = 16 ∧
      full.ctrl.rxq = 0x11#8 :: List.replicate 15 0x11#8) := by decide

/-- Each test of the admission check fails somewhere, and one state passes them all (K18 to K25). -/
theorem witness_AdmissionCheck : released.resets.done.getLsbD 3 = true ∧ released.ctrl.icEn = false ∧
    (1#32).getLsbD 0 = true ∧ released.i2c = (State.launch 0).i2c ∧ released.ctrl = (State.launch 0).ctrl ∧
    admissionFailure { ready.i2c with con := icConOfWord 0x164 } = some .enableSlaveMode ∧
    admissionFailure { ready.i2c with con := icConOfWord 0x125 } = some .enableSlaveMode ∧
    admissionFailure { ready.i2c with con := icConOfWord 0x175 } = some .enable10bit ∧
    admissionFailure { ready.i2c with tar := icTarOfWord 0x83C } = some .enableSpecial ∧
    admissionFailure { ready.i2c with fsHcnt := 16 } = some .enableHcntTooSmall ∧
    admissionFailure { ready.i2c with fsLcnt := 18 } = some .enableLcntTooSmall ∧
    admissionFailure { ready.i2c with sdaTxHold := 185 } = some .enableSdaHoldTooLong ∧
    admissionFailure { ready.i2c with sdaTxHold := 184 } = none := by decide

theorem witness_EnableOtherWrites : ready.resets.done.getLsbD 3 = true ∧
    ((2#32).getLsbD 0 = false ∧ (2#32).getLsbD 1 = true) ∧
    ((4#32).getLsbD 0 = false ∧ (4#32).getLsbD 1 = false ∧ (3#32).getLsbD 0 = true) ∧
    (ready.ctrl.icEn = true ∧ ready.ctrl.owned = false ∧ ready.ctrl.shift = none ∧
      ready.i2c.enable.abort = false) ∧
    ((held 0 .write [] []).ctrl.icEn = true ∧ (held 0 .write [] []).ctrl.owned = true) ∧
    released.ctrl.icEn = false := by decide

theorem witness_GatedWritesWhileEnabled : ready.resets.done.getLsbD 3 = true ∧ ready.ctrl.icEn = true := by
  decide

theorem witness_ThresholdWrites : (fieldAt 15 0 8).toNat = 15 ∧ (fieldAt 16 0 8).toNat = 16 := by decide

/-- Every write through an alias has the word it performs. -/
theorem witness_AliasWriteIsOneNormalWrite (op : AliasOp) (old v : Word) :
    WordWritten op old v (aliasApply op old v) := by
  intro k hk
  rw [Laws.aliasApply_getLsbD op old v k hk, Nat.zero_add]

/-- A release of the first and of the last bit, and a bit that cannot be released. -/
theorem witness_ReleaseStep :
    let s := { State.reset with
      resets := { reset := 0x0FFFFFE, wdsel := 0, done := 0 }, script := ⟨[.rst 0], [], []⟩ }
    let t := { s with script := ⟨[.rst 24], [], []⟩ }
    let u := { s with script := ⟨[.rst 23], [], []⟩ }
    (nextTurn s = .rst 0 ∧ s.resets.reset.getLsbD 0 = false ∧ s.resets.done.getLsbD 0 = false) ∧
    (nextTurn t = .rst 24 ∧ t.resets.reset.getLsbD 24 = false ∧ t.resets.done.getLsbD 24 = false) ∧
    (nextTurn u = .rst 23 ∧ u.resets.reset.getLsbD 23 = true) := by decide

/-- Function 8 on pins 19 and 20, 0, 9, 10 and 31; a second pin on SDA and on SCL (X5, X6). -/
theorem witness_PinControlWrite : ready.resets.done.getLsbD 5 = true ∧
    after (.wrGpioCtrl 19 .normal 8) ready (fun t => t.marks.refused == [.funcselReserved]) = true ∧
    after (.wrGpioCtrl 20 .normal 8) ready (fun t => t.marks.refused == []) = true ∧
    after (.wrGpioCtrl 29 .normal 9) ready (fun t => t.marks.refused == []) = true ∧
    after (.wrGpioCtrl 29 .normal 10) ready (fun t => t.marks.refused == [.funcselReserved]) = true ∧
    after (.wrGpioCtrl 29 .normal 31) ready (fun t => t.marks.refused == []) = true ∧
    after (.wrGpioCtrl 28 .normal 3) ready (fun t => t.marks.refused == [.i2c0SignalOnTwoPins]) = true ∧
    after (.wrGpioCtrl 29 .normal 3) ready (fun t => t.marks.refused == [.i2c0SignalOnTwoPins]) = true := by
  decide

/-- The premises of the statements about pads and pins. -/
theorem witness_pins_released : released.resets.done.getLsbD 8 = true ∧ released.resets.done.getLsbD 5 = true ∧
    (29#5).toNat ≤ 29 := by decide

/-- X18's state: SIO drives pin 4 high while the environment pulls SDA low. -/
def fighting : State := { ready with
  io := (setPinCtrl ready 4 { PinCtrl.reset with funcsel := 5 }).io
  sio := { gpioOut := 0x10, gpioOe := 0x10 }
  wires := { ready.wires with envSdaLow := true } }

theorem witness_PinStatusRead : (28#5).toNat ≤ 29 ∧ ready.resets.done.getLsbD 5 = true ∧
    contends ready (ready.draws + 1) 28 = false ∧
    ((padOf fighting 4).ie = true ∧ contends fighting (fighting.draws + 1) 4 = true) := by decide

theorem witness_ConfiguredPinsAreWired : pinsLegal ready = true ∧ i2cPinOk ready 4 = true ∧
    i2cPinOk ready 5 = true := by decide

/-- A node driven low, driven high, pulled up, pulled down, and driven by SIO. -/
theorem witness_NodeLevels :
    let low := { ready with wires := { ready.wires with envSdaLow := true } }
    let sio := { released with
      io := (setPinCtrl released 29 { PinCtrl.reset with funcsel := 5 }).io
      sio := { gpioOut := 0x20000000, gpioOe := 0x20000000 } }
    (contends low 0 4 = false ∧ nodeLow low 0 4 = true) ∧
    (nodeLow sio 0 29 = false ∧ nodeHigh sio 0 29 = true) ∧
    (nodeLow ready 0 5 = false ∧ nodeHigh ready 0 5 = false ∧ (padOf ready 5).pue = true ∧
      (padOf ready 5).pde = false) ∧
    (nodeLow released 0 0 = false ∧ nodeHigh released 0 0 = false ∧ (padOf released 0).pue = false ∧
      (padOf released 0).pde = true ∧ extPullup 0 = false) ∧
    ((pinCtrlOf sio 29).funcsel = 5#5 ∧ (pinCtrlOf sio 29).outover = 0#2 ∧
      (pinCtrlOf sio 29).oeover = 0#2 ∧ (padOf sio 29).od = false ∧ envLow sio 29 = false ∧
      sio.sio.gpioOe.getLsbD 29 = true) := by decide

/-- One contending pin among the thirty, and none. -/
theorem witness_GpioInRead :
    (List.range 30).filter (fun n => (padOf fighting n).ie && contends fighting fighting.draws n) = [4] ∧
    (List.range 30).filter (fun n => (padOf ready n).ie && contends ready ready.draws n) = [] := by decide

theorem witness_PopStep :
    let s := { ready with
      ctrl := { ready.ctrl with txq := [cmdOfWord 0x2AE] }, script := ⟨[.ctrl], [], []⟩ }
    nextTurn s = .ctrl ∧ s.ctrl.icEn = true ∧ s.resets.reset.getLsbD 3 = false ∧
    s.i2c.enable.abort = false ∧ s.ctrl.flushHold = false ∧ s.i2c.enable.txCmdBlock = false ∧
    s.ctrl.shift = none ∧ s.ctrl.txq = [cmdOfWord 0x2AE] := by decide

theorem witness_AtMostOneControllerStep :
    let s := { ready with script := ⟨[.ctrl], [], []⟩ }
    nextTurn s = .ctrl ∧ popEnabled s = false ∧ xferReady s = false ∧ abortEnabled s = false := by decide

theorem witness_CommandsWait :
    released.ctrl.icEn = false ∧ State.reset.resets.reset.getLsbD 3 = true ∧
    { ready.i2c.enable with abort := true }.abort = true ∧ ready.ctrl.shift ≠ some (cmdOfWord 0) ∧
    (ready.ctrl.owned = false ∧ { ready.wires with otherBusy := true }.otherBusy = true) ∧
    ((cmdOfWord 0x300).cmd = true ∧ (icConOfWord 0x365).rxFifoFullHldCtrl = true ∧
      full.ctrl.rxq.length = 16) := by decide

/-- IC_CON = 0x165 does not hold a read for a full RXQ. -/
theorem hold_off : ¬ (icConOfWord 0x165).rxFifoFullHldCtrl = true := by decide

/-- F1's command on a free bus; `roomOrLoss` at 16 bytes with the hold off (F18). -/
theorem witness_CommandInHand (w : Word) (answers : List Answer) (bytes : List Byte) :
    CommandInHand (cmdOfWord w) (inHand w answers bytes) ∧ BusFree (inHand w answers bytes) :=
  ⟨⟨rfl, (by decide : (0#25).getLsbD 3 = false), rfl, rfl, rfl,
      fun h => hold_off h.2.1, by
      rw [Laws.wired_congr (s := inHand w answers bytes) (t := ready) rfl rfl]; decide⟩, rfl, rfl, rfl, rfl⟩

theorem witness_WriteOnFreeBus : (cmdOfWord 0x2AE).cmd = false ∧
    (inHand 0x2AE [.ack, .ack] []).script.answers = [.ack, .ack] := by decide

theorem witness_ReadOnFreeBus : (cmdOfWord 0x300).cmd = true ∧
    (inHand 0x300 [.ack] [0x5A]).script.answers = [.ack] ∧ (inHand 0x300 [.ack] [0x5A]).script.bytes = [0x5A] := by
  decide

theorem witness_HeldCommand (w : Word) (d : Dir) (answers : List Answer) (bytes : List Byte) :
    CommandInHand (cmdOfWord w) (held w d answers bytes) ∧ (held w d answers bytes).ctrl.owned = true :=
  ⟨⟨rfl, (by decide : (0#25).getLsbD 3 = false), rfl, rfl, rfl,
      fun h => hold_off h.2.1, by
      rw [Laws.wired_congr (s := held w d answers bytes) (t := ready) rfl rfl]; decide⟩, rfl⟩

theorem witness_CommandGoesOnHeldBus :
    ((cmdOfWord 0x2AF).restart = false ∧ (cmdOfWord 0x2AF).cmd = false ∧
      (held 0x2AF .write [.ack] []).ctrl.dir = .write ∧
      (held 0x2AF .write [.ack] []).ctrl.rxAckPending = false) ∧
    ((cmdOfWord 0x300).restart = false ∧ (cmdOfWord 0x300).cmd = true ∧
      (held 0x300 .read [] [1]).ctrl.dir = .read ∧ (held 0x300 .read [] [1]).ctrl.rxAckPending = true ∧
      (held 0x300 .read [] [1]).script.bytes = [1]) := by decide

theorem witness_CommandRestartsHeldBus :
    ((cmdOfWord 0x4AE).cmd = false ∧ (cmdOfWord 0x4AE).restart = true ∧
      (held 0x0AE .read [.ack, .ack] []).ctrl.dir = .read) ∧
    ((cmdOfWord 0x500).cmd = true ∧ (cmdOfWord 0x500).restart = true ∧
      (held 0x100 .write [.ack] [1]).ctrl.dir = .write) := by decide

theorem witness_AbortsOnFreeBus :
    (inHand 0x2AE [.nack] []).script.answers = [.nack] ∧ (inHand 0x2AE [.lost] []).script.answers = [.lost] ∧
    (inHand 0x2AE [.ack, .nack] []).script.answers = [.ack, .nack] ∧
    (inHand 0x2AE [.ack, .lost] []).script.answers = [.ack, .lost] ∧ (cmdOfWord 0x2AE).cmd = false := by decide

/-- The held-bus clauses: F9 and F12's last byte, and a restart in each direction; `witness_HeldCommand` gives the
command in hand. -/
theorem witness_AbortsOnFreeBus_held :
    ((cmdOfWord 0x2AE).restart = false ∧ (held 0x2AE .write [.nack] []).ctrl.dir = .write ∧
      (held 0x2AE .write [.nack] []).ctrl.rxAckPending = false ∧
      (held 0x2AE .write [.lost] []).script.answers = [.lost]) ∧
    ((cmdOfWord 0x4AE).restart = true ∧ (held 0x4AE .read [.ack, .nack] []).script.answers = [.ack, .nack] ∧
      (held 0x4AE .read [.ack, .nack] []).ctrl.rxAckPending = true) ∧
    ((cmdOfWord 0x100).cmd = true ∧ (held 0x100 .write [.lost] []).ctrl.dir ≠ .read) := by decide

theorem witness_UnwiredCommandIgnoresScript :
    let s := { inHand 0x2AE [.ack, .ack] [] with io := released.io }
    wired s = false ∧ xferEnabled (cmdOfWord 0x2AE) s = true := by decide

/-- F22: an ACK slot pending, then an abort. -/
theorem witness_UserAbortStep :
    let s := { held 0x100 .read [] [] with
      i2c := { ready.i2c with enable := ⟨true, true, false⟩ }, script := ⟨[.ctrl], [], []⟩ }
    nextTurn s = .ctrl ∧ s.ctrl.icEn = true ∧ s.resets.reset.getLsbD 3 = false ∧
    s.i2c.enable.abort = true ∧ s.ctrl.rxAckPending = true := by decide

theorem witness_EnvironmentSteps (e : EnvStep) : nextTurn { ready with script := ⟨[.env e], [], []⟩ } = .env e := rfl

theorem witness_HostLocalStatements (st : Stmt) : nextTurn (atStmt st none) = .host ∧
    (atStmt st none).host.halted = false ∧ (atStmt st none).host.prog[(atStmt st none).host.pc]? = some st ∧
    { (atStmt st none).host with halted := true }.halted = true := ⟨rfl, rfl, rfl, rfl⟩

theorem witness_ValidDividerIsAdmitted : (divider 125000000 400000).valid = true ∧
    ready.i2c.con.masterMode = true ∧ ready.i2c.con.slaveDisable = true ∧
    ready.i2c.con.tenBitAddrMaster = false ∧ ready.i2c.tar.special = false ∧
    hcntEff ready.i2c = legalHcnt 126 ∧ lcntEff ready.i2c = legalLcnt 187 ∧
    ready.i2c.fsSpklen = legalSpklen 11 ∧ ready.i2c.sdaTxHold = 38 := by decide

/-- Both ends of the clock's range, with counts that agree at 125 MHz. -/
theorem witness_DividerMeetsTiming : (divider 7000000 400000).valid = true ∧
    (divider 140000000 400000).valid = true ∧ (hcntEff ready.i2c).toNat = (divider 125000000 400000).hcnt ∧
    (lcntEff ready.i2c).toNat = (divider 125000000 400000).lcnt := by decide

/-- A stretched HIGH, a START that waits and one that does not, a count with a change of SDA due and with none, a LOW and a HIGH to begin with each
TX_HOLD, none left, a command enabled, an abort, and the HIGH of a bit on a connected bus. -/
theorem witness_ClockCycleTouchesOnlyTiming :
    let clk (c : Ctrl) (w : Wires) : State := { ready with ctrl := c, wires := w, script := ⟨[.clk], [], []⟩ }
    let low : Wires := { ready.wires with envSclLow := true }
    let high := clk { ready.ctrl with phase := .high, cnt := 2 } low
    let due := clk { ready.ctrl with cnt := 1, segments := bitSegments 126 187 [ctrlBit false] } low
    let start := clk { ready.ctrl with cnt := 1, segments := [⟨.startHold, some 126, none⟩] }
    let rise := clk { ready.ctrl with
      phase := .low, cnt := 1, segments := [⟨.high, some 126, some (ctrlBit false)⟩] } low
    let count := clk { ready.ctrl with phase := .low, cnt := 2, sdaDue := some ⟨1, some true⟩ } low
    let bit := { ready with ctrl := { ready.ctrl with phase := .high, sdaLine := targetBit false } }
    (nextTurn high = .clk ∧ high.ctrl.phase = .high ∧ cycleSclLevel (beginTurn high) = false) ∧
    (nextTurn due = .clk ∧ due.ctrl.phase ≠ .high ∧ due.ctrl.phase ≠ .low ∧ due.ctrl.cnt.toNat ≤ 1 ∧
      due.ctrl.segments = bitSegments 126 187 [ctrlBit false] ∧ due.i2c.sdaTxHold ≠ 0 ∧
      { due with i2c := { due.i2c with sdaTxHold := 0 } }.i2c.sdaTxHold = 0) ∧
    (nextTurn (start low) = .clk ∧ (start low).ctrl.cnt.toNat ≤ 1 ∧ startWaits (beginTurn (start low)) = true ∧
      startWaits (beginTurn (start ready.wires)) = false ∧ startWaits (beginTurn due) = false) ∧
    (nextTurn rise = .clk ∧ rise.ctrl.phase ≠ .high ∧ rise.ctrl.cnt.toNat ≤ 1) ∧
    (nextTurn count = .clk ∧ count.ctrl.phase = .low ∧ 1 < count.ctrl.cnt.toNat) ∧
    (1 < (clk { ready.ctrl with cnt := 2 } low).ctrl.cnt.toNat ∧ ready.ctrl.sdaDue = none ∧
      ready.ctrl.cnt.toNat ≤ 1 ∧ ready.ctrl.segments = []) ∧
    xferEnabled (cmdOfWord 0x2AE) (inHand 0x2AE [.ack, .ack] []) = true ∧
    (let s := { ready with
       i2c := { ready.i2c with enable := ⟨true, true, false⟩ }, script := ⟨[.ctrl], [], []⟩ }
     nextTurn s = .ctrl ∧ abortEnabled s = true) ∧
    (bit.ctrl.phase = .high ∧ bit.ctrl.sdaLine = ⟨some false, some true⟩ ∧ wired bit = true ∧
      bit.wires.envSdaLow = false) := by decide

/-! ### Premises, the frame grammar, and the preconditions of the drivers -/

/-- A LOW before the RESTART's HIGH, an IDLE after the STOP's BUS_FREE, and an IDLE between the HIGH of a lost
answer and the next START are entered (70_reset_and_hazards.md R731). -/
theorem test_phases_entered :
    (enterNextPhase { ready with ctrl := { ready.ctrl with
      phase := .high, segments := eventSegments 126 187 .start } }).ctrl.phase = .idle ∧
    (enterNextPhase { ready with ctrl := { ready.ctrl with
      phase := .high, segments := eventSegments 126 187 .restart } }).ctrl.phase = .low ∧
    (enterNextPhase { ready with ctrl := { ready.ctrl with
      phase := .busFree, segments := (eventSegments 126 187 .stop).drop 3 ++ eventSegments 126 187 .start } }).ctrl.phase
      = .idle := by decide

/-- SDA through one bit (70_reset_and_hazards.md R732), here a 0 after a 1, with TX_HOLD 38: kept as SCL falls,
changed after 38 cycles, carried through HIGH, where SDA reads 0 and 0 is sampled, also while SCL is stretched. -/
theorem test_bit_on_sda :
    let at_ (p : Phase) (n : BitVec 16) (y : SdaDrive) (z : Option SdaChange) (g : List Segment) : State :=
      { ready with ctrl := { ready.ctrl with
        owned := true, phase := p, cnt := n, sdaLine := y, sdaDue := z, segments := g } }
    let bit := bitSegments 126 187 [ctrlBit false]
    let fall := clockTick (at_ .high 1 (ctrlBit true) none bit)
    let change := clockTick (at_ .low 150 (ctrlBit true) (some ⟨1, some true⟩) (bit.drop 1))
    let rise := clockTick (at_ .low 1 (ctrlBit false) none (bit.drop 1))
    (fall.ctrl.phase = .low ∧ fall.ctrl.sdaLine = ctrlBit true ∧ fall.ctrl.sdaDue = some ⟨38, some true⟩) ∧
    (change.ctrl.cnt = 149 ∧ change.ctrl.sdaLine = ctrlBit false ∧ change.ctrl.sdaDue = none) ∧
    (rise.ctrl.phase = .high ∧ rise.ctrl.sdaLine = ctrlBit false ∧ cycleSclLevel rise = true ∧
      cycleSdaLevel rise = false ∧ sdaSample rise = false) ∧
    clockTick { rise with wires := { rise.wires with envSclLow := true } } =
      { rise with wires := { rise.wires with envSclLow := true } } := by decide

/-- A queued START begins only on a free bus (70_reset_and_hazards.md R731), and the winner of its own lost byte
does not hold it up. -/
theorem test_start_waits :
    let s (w : Wires) (evs : List BusEvent) : State := { ready with
      ctrl := { ready.ctrl with cnt := 1, segments := [⟨.startHold, some 126, none⟩] }, wires := w
      trace := onBus evs }
    (clockTick (s ⟨false, true, false⟩ [])).ctrl.phase = .idle ∧
    (clockTick (s ⟨true, false, false⟩ [])).ctrl.phase = .idle ∧
    (clockTick (s ⟨false, false, true⟩ [.start, .addr 0x78 .lost, .envStop, .envStart])).ctrl.phase = .idle ∧
    (clockTick (s ⟨false, false, true⟩ [.envStart, .envStop, .start, .addr 0x78 .lost])).ctrl.phase = .startHold ∧
    (clockTick (s ⟨false, false, false⟩ [])).ctrl.phase = .startHold := by decide

/-- The target's ACK slot pulls SDA low and its NACK leaves it high; the levels of RESTART and of STOP
(30_encoding.md R172, 70_reset_and_hazards.md R731). -/
theorem test_phase_drives :
    let high (d : SdaDrive) : State :=
      { ready with ctrl := { ready.ctrl with owned := true, phase := .high, cnt := 9, sdaLine := d } }
    let enter (g : Segment) (d : SdaDrive) : State := enterSegment g [] (high d)
    cycleSdaLevel (high (targetBit false)) = false ∧ cycleSdaLevel (high (targetBit true)) = true ∧
    (enter ⟨.low, none, some sdaReleased⟩ (ctrlBit false)).ctrl.sdaDue = some ⟨38, some false⟩ ∧
    (enter ⟨.high, some 126, some sdaReleased⟩ (ctrlBit false)).ctrl.sdaLine = sdaReleased ∧
    (cycleOutputs (enter ⟨.startHold, some 126, none⟩ sdaReleased)).ctrl.sdaOe = true ∧
    (enter ⟨.low, none, some (ctrlBit false)⟩ sdaReleased).ctrl.sdaDue = some ⟨38, some true⟩ ∧
    (cycleOutputs (enter ⟨.stopSetup, some 126, none⟩ sdaReleased)).ctrl.sdaOe = true ∧
    (cycleOutputs (enter ⟨.busFree, some 187, none⟩ (ctrlBit false))).ctrl.sdaOe = false := by decide

/-- "A phase with no data byte" and either direction bit (30_encoding.md R174); no TX after an RX byte. -/
theorem test_frame_grammar :
    frameRun .free [.start, .addr 0x79 .ack, .stop] = some .free ∧
    frameRun .free [.start, .addr 0x79 .ack, .tx 1 .ack, .restart, .addr 0x78 .nack, .stop] = some .free ∧
    frameRun .free [.start, .addr 0x79 .ack, .rx 1, .mack, .stop] = none ∧
    frameRun .free [.start, .addr 0x78 .nack, .restart] = none := by decide

/-- `env_target` demands ACK in T's transfers only, and nothing of an unwired step; `env_nack_data` counts every
TX byte of the run (43_i2c_fsm.md R442). -/
theorem test_env_premises :
    envTarget 0x3C (onBus [.start, .addr 0x78 .ack, .tx 0 .nack, .stop]) = false ∧
    envTarget 0x3C (⟨.addr 0x7A .ack, false⟩ :: onBus [.tx 0 .nack]) = true ∧
    envNackData 0x3C 2 (⟨.tx 0 .ack, false⟩ :: onBus [.addr 0x78 .ack, .tx 1 .nack, .tx 2 .ack]) = true ∧
    envNackData 0x3C 2 (⟨.tx 0 .ack, false⟩ :: onBus [.addr 0x78 .ack, .tx 1 .ack]) = false := by decide

/-- A controller with nothing in hand waits for nothing; one whose START is blocked waits (43_i2c_fsm.md R441). -/
theorem test_waitsForEnv :
    waitsForEnv { released with wires := { released.wires with envSclLow := true } } = false ∧
    waitsForEnv { inHand 0x2AE [] [] with wires := { ready.wires with otherBusy := true } } = true := by decide

/-- A target that holds SCL low in a HIGH stretches the clock though no CTRL step waits for it; in the LOW of a
wait nothing is stretched (70_reset_and_hazards.md R735). -/
theorem test_stretched :
    let s (p : Phase) : State := { ready with
      ctrl := { ready.ctrl with phase := p }, wires := { ready.wires with envSclLow := true } }
    stretched (s .high) = true ∧ waitsForEnv (s .high) = false ∧ stretched (s .low) = false := by decide

/-- PIN_RECONFIGURE with PADS_BANK0 released and IO_BANK0 held: refused before the pad is written
(44_driver_ops.md R500). -/
theorem test_pinReconfigure_refused :
    let s := { State.launch 0x01FFFEFF with host := { ready.host with prog := pinReconfigure 4 3 0x5A } }
    let t := localStmt .requirePinBanks s
    currentStmt s.host = some .requirePinBanks ∧ s.resets.done.getLsbD 8 = true ∧
    t.marks.refused = [.blockInReset] ∧ t.pads = s.pads ∧ t.host.halted = true := by decide

/-- Every list of DISPLAY_WRITES starts with 0x00 or 0x40 (00_scope.md R9). -/
theorem test_displayWrite_starts (w : DisplayWrite) : w.bytes.head? = some 0x00 ∨ w.bytes.head? = some 0x40 := by
  cases w with
  | mk framebuffer payload => cases framebuffer <;> simp [DisplayWrite.bytes]

end Sys2Proof.Tests
end

section
/-! Accesses to the blocks (20_memory.md R104, R111): what decodes at all, which RESET_DONE bit admits an
instruction, and that the block of the address an instruction was decoded from is the block that admits it. -/

namespace Sys2Proof.Proofs.Memory

open Sys2Proof Sys2Proof.Machine Sys2Proof.Laws

/-! ### Width and alignment (20_memory.md R104) -/

/-- A narrow, wide or unaligned access is refused before any row is looked at. -/
theorem decodeAcc_widthOrAlign {n : Nat} {acc : BitVec 33} (v : Word)
    (h : n ≠ 4 ∨ acc.extractLsb' 0 2 ≠ 0#2) : decodeAcc n acc v = .error .widthOrAlign := by
  rw [decodeAcc, if_pos h]

/-- Settles O4: the rows are searched only after the test of width and alignment. -/
theorem wrongWidthOrAlignmentRefused : Obligations.WrongWidthOrAlignmentRefused := by
  intro n acc v
  refine ⟨fun i hi => ?_, decodeAcc_widthOrAlign v⟩
  obtain ⟨hn, halign, -⟩ := decodeAcc_ok hi
  exact ⟨hn, halign⟩

/-! ### Which RESET_DONE bit admits an instruction (20_memory.md R111) -/

/-- What an instruction's execution asks of RESETS. -/
inductive Gate where
  /-- An access, carried out only while this bit of RESET_DONE is 1. -/
  | doneBit (b : Nat)
  /-- An access that is always carried out. -/
  | always
  /-- A command of the controller, no access. -/
  | command

/-- The gate of an instruction, by the block of its register. -/
def gateOf : Instr → Gate
  | .rdGpioStatus _ | .rdGpioCtrl _ | .wrGpioCtrl _ _ _ => .doneBit ioBit
  | .rdVoltageSelect | .wrVoltageSelect _ _ | .rdPadGpio _ | .wrPadGpio _ _ _ => .doneBit padsBit
  | .rdResetsReset | .wrResetsReset _ _ | .rdResetsWdsel | .wrResetsWdsel _ _ | .rdResetsResetDone
  | .rdSioCpuid | .rdSioGpioIn
  | .rdSioGpioOut | .wrSioGpioOut _ | .rdSioGpioOutSet | .wrSioGpioOutSet _
  | .rdSioGpioOutClr | .wrSioGpioOutClr _ | .rdSioGpioOutXor | .wrSioGpioOutXor _
  | .rdSioGpioOe | .wrSioGpioOe _ | .rdSioGpioOeSet | .wrSioGpioOeSet _
  | .rdSioGpioOeClr | .wrSioGpioOeClr _ | .rdSioGpioOeXor | .wrSioGpioOeXor _ => .always
  | .cmdW _ | .cmdR _ | .cmdWStop _ | .cmdRStop _
  | .cmdWRestart _ | .cmdRRestart _ | .cmdWRestartStop _ | .cmdRRestartStop _ => .command
  | _ => .doneBit i2cBit

/-- An access to a register of a pin that the bank has goes through. -/
theorem onPin_open {n : BitVec 5} (h : pinOk n = true) (f : State → State) (s : State) :
    onPin n f s = f s :=
  if_pos (of_decide_eq_true h)

/-- A gated instruction is an access through `inBlock`. -/
theorem exec_eq_inBlock {i : Instr} {b : Nat} (hg : gateOf i = .doneBit b) (hwf : i.wf = true)
    (s : State) : ∃ f, exec i s = .next (inBlock b f s) := by
  cases i with
  | rdGpioStatus n | rdGpioCtrl n | wrGpioCtrl n op v | rdPadGpio n | wrPadGpio n op v =>
    cases hg
    exact ⟨_, congrArg _ (onPin_open hwf _ s)⟩
  | _ => cases hg <;> exact ⟨_, rfl⟩

/-- A gated instruction is refused while its block is held. -/
theorem exec_held {i : Instr} {b : Nat} {s : State} (hg : gateOf i = .doneBit b) (hwf : i.wf = true)
    (hs : s.resets.done.getLsbD b = false) : exec i s = .next (refuse .blockInReset s) := by
  obtain ⟨f, hf⟩ := exec_eq_inBlock hg hwf s
  rw [hf, inBlock_held hs]

/-- The write of RESETS.RESET leaves the marks. -/
theorem writeResets_marks (v : BitVec 25) (s : State) : (writeResets v s).marks = s.marks := by
  rw [writeResets_eq]

/-- The read of GPIO_IN, which can mark a contention, marks no refusal. -/
theorem readGpioIn_refused (s : State) : (readGpioIn s).marks.refused = s.marks.refused := by
  rw [readGpioIn, respondMasked_marks, checkReads_eq]

/-- An access to RESETS or SIO marks no refusal. -/
theorem exec_always {i : Instr} (hg : gateOf i = .always) (s : State) :
    ∃ t, exec i s = .next t ∧ t.marks.refused = s.marks.refused := by
  cases i with
  | wrResetsReset op v => exact ⟨_, rfl, congrArg Marks.refused (writeResets_marks _ s)⟩
  | rdSioGpioIn => exact ⟨_, rfl, readGpioIn_refused s⟩
  | _ => cases hg <;> exact ⟨_, rfl, rfl⟩

/-! ### The rows of the decoder -/

/-- A row with no pin index builds a well-formed instruction. -/
theorem build_wf_of_no_pin :
    ∀ r ∈ i2cConfigRows ++ i2cClearRows ++ i2cHighRows ++ resetsRows ++ sioRows,
      ∀ (acc : BitVec 33) (v : Word), (r.build acc v).wf = true := by
  simp only [i2cConfigRows, i2cClearRows, i2cHighRows, resetsRows, sioRows, List.cons_append,
    List.nil_append, List.forall_mem_cons, List.not_mem_nil, false_implies, implies_true, and_true]
  and_intros <;> exact fun _ _ => rfl

/-- An IO_BANK0 row admits the pins that its instruction admits. -/
theorem build_wf_of_ioRows : ∀ r ∈ ioRows, ∀ (acc : BitVec 33) (v : Word), r.ok acc = true →
    (r.build acc v).wf = true := by
  simp only [ioRows, List.forall_mem_cons, List.not_mem_nil, false_implies, implies_true, and_true]
  and_intros <;> exact fun _ _ hok => hok

/-- A PADS_BANK0 row admits the pins that its instruction admits. -/
theorem build_wf_of_padsRows : ∀ r ∈ padsRows, ∀ (acc : BitVec 33) (v : Word), r.ok acc = true →
    (r.build acc v).wf = true := by
  have pin_ok {acc : BitVec 33} (h : padPinHolds acc = true) : pinOk (padPinOfAcc acc) = true :=
    ((Bool.and_eq_true _ _).mp h).2
  simp only [padsRows, List.forall_mem_cons, List.not_mem_nil, false_implies, implies_true, and_true]
  exact ⟨fun _ _ _ => rfl, fun _ _ _ => rfl, fun _ _ hok => pin_ok hok, fun _ _ hok => pin_ok hok⟩

/-- A row whose constraint an access meets builds a well-formed instruction. -/
theorem build_wf {r : AccRow} (hr : r ∈ accRows) {acc : BitVec 33} (hok : r.ok acc = true) (v : Word) :
    (r.build acc v).wf = true := by
  by_cases hio : r ∈ ioRows
  · exact build_wf_of_ioRows r hio acc v hok
  by_cases hpads : r ∈ padsRows
  · exact build_wf_of_padsRows r hpads acc v hok
  · simp only [accRows, List.mem_append, hio, hpads, or_false] at hr
    exact build_wf_of_no_pin r (by simpa only [List.mem_append] using hr) acc v

/-- The gate of an address, by its block `ACC[31:14]` (30_encoding.md R151). -/
def gateOfBlock (block : BitVec 18) : Gate :=
  if block = blkI2c0 then .doneBit i2cBit
  else if block = blkIo then .doneBit ioBit
  else if block = blkPads then .doneBit padsBit
  else .always

/-- Each row builds an instruction of its own block. -/
theorem gateOf_build : ∀ r ∈ accRows, ∀ (acc : BitVec 33) (v : Word),
    gateOf (r.build acc v) = gateOfBlock (r.mtch.extractLsb' 14 18) := by
  simp only [accRows, i2cConfigRows, i2cClearRows, i2cHighRows, resetsRows, ioRows, padsRows, sioRows,
    List.cons_append, List.nil_append, List.forall_mem_cons, List.not_mem_nil, false_implies,
    implies_true, and_true]
  and_intros <;> exact fun _ _ => rfl

/-- Every row fixes the block of the address. -/
theorem mask_block : ∀ r ∈ accRows, r.mask.extractLsb' 14 18 = BitVec.allOnes 18 := by decide

/-- An access that hits a row lies in the row's block. -/
theorem block_of_hits {r : AccRow} (hr : r ∈ accRows) {acc : BitVec 33} (h : r.hits acc = true) :
    acc.extractLsb' 14 18 = r.mtch.extractLsb' 14 18 := by
  obtain ⟨hm, -⟩ := (Bool.and_eq_true _ _).mp h
  rw [← eq_of_beq hm, BitVec.extractLsb'_and, mask_block r hr, BitVec.and_allOnes]

/-- An access that decodes gives a well-formed instruction, with the gate of the address's block. -/
theorem decode_acc_gate {n : Nat} {acc : BitVec 33} {v : Word} {i : Instr}
    (h : decode (.acc n acc v) = .ok i) :
    i.wf = true ∧ gateOf i = gateOfBlock (acc.extractLsb' 14 18) := by
  obtain ⟨-, -, r, hr, hits, rfl⟩ := decodeAcc_ok h
  obtain ⟨-, hok⟩ := (Bool.and_eq_true _ _).mp hits
  exact ⟨build_wf hr hok v, by rw [gateOf_build r hr, block_of_hits hr hits]⟩

/-- The block field is bits 19:2 of the page `ACC[31:12]` by which SIO is decoded (30_encoding.md R151). -/
theorem block_eq_extract_page (acc : BitVec 33) :
    acc.extractLsb' 14 18 = (acc.extractLsb' 12 20).extractLsb' 2 18 := by
  ext i hi
  have hlt : 2 + i < 20 := by omega
  simp only [BitVec.getElem_extractLsb', BitVec.getLsbD_extractLsb', hlt, decide_true, Bool.true_and,
    ← Nat.add_assoc]

/-- Settles O14: the block of the address is the block whose gate the decoded instruction passes. -/
theorem heldBlockRefusesAccess : Obligations.HeldBlockRefusesAccess := by
  intro acc v i s hd
  obtain ⟨hwf, hgate⟩ := decode_acc_gate hd
  refine ⟨fun hb hs => ?_, fun hb hs => ?_, fun hb hs => ?_, fun hb => exec_always ?_ s⟩
  · exact exec_held (b := i2cBit) (by rw [hgate, hb]; rfl) hwf hs
  · exact exec_held (b := ioBit) (by rw [hgate, hb]; rfl) hwf hs
  · exact exec_held (b := padsBit) (by rw [hgate, hb]; rfl) hwf hs
  · rcases hb with hb | hb
    · rw [hgate, hb]; rfl
    · rw [hgate, block_eq_extract_page, hb]; rfl

end Sys2Proof.Proofs.Memory
end

section
/-! Registers that are always accessible (40_pin_mux.md R200, R202, R203, R261 to R263): what a read and a write of
a field at bit 0 do, the pins a write of SIO changes, and the registers of RESETS and SIO. -/

namespace Sys2Proof.Proofs.PinMux

open Sys2Proof Sys2Proof.Machine Sys2Proof.Safety Sys2Proof.Laws

/-! ### Reads of a field at bit 0 (20_memory.md R102) -/

/-- The mask of a field of `w` bits at bit 0 has exactly the bits below `w`. -/
theorem getLsbD_lowMask {w : Nat} (hw : w ≤ 32) (j : Nat) :
    ((BitVec.allOnes w).setWidth 32).getLsbD j = decide (j < w) := by
  rw [BitVec.getLsbD_setWidth, BitVec.getLsbD_allOnes]
  exact Bool.and_eq_right_iff_imp.mpr fun h =>
    decide_eq_true (Nat.lt_of_lt_of_le (of_decide_eq_true h) hw)

/-- A word that agrees with a widened field below its width holds the field. -/
theorem extractLsb'_eq_of_agrees {w : Nat} (hw : w ≤ 32) {x : Word} {f : BitVec w}
    (h : ∀ j, j < w → x.getLsbD j = (zext f).getLsbD j) : x.extractLsb' 0 w = f := by
  apply BitVec.eq_of_getLsbD_eq
  intro j hj
  have h32 : j < 32 := by omega
  rw [BitVec.getLsbD_extractLsb', Nat.zero_add, h j hj, getLsbD_zext]
  simp only [hj, h32, decide_true, Bool.true_and]

/-- A read of a field at bit 0 returns the field, with every bit above it free. -/
theorem reads_of_respondLow {i : Instr} {s : State} {w : Nat} {f : BitVec w} {m : Word} (hw : w ≤ 32)
    (hm : (BitVec.allOnes w).setWidth 32 = m) (he : exec i s = .next (respondLow f s)) :
    Reads i s m (fun v => v.extractLsb' 0 w = f) := by
  subst hm
  refine reads_of_respondMasked i s _ (zext f) _ he fun x hx => extractLsb'_eq_of_agrees hw ?_
  exact fun j hj => hx j ((getLsbD_lowMask hw j).trans (decide_eq_true hj))

/-- A read of a write-only register returns a free word. -/
theorem reads_of_respondFree {i : Instr} {s : State} (he : exec i s = .next (respondFree s)) :
    Reads i s 0 (fun _ => True) :=
  reads_of_respondMasked i s 0 0 _ he fun _ _ => trivial

/-! ### Writes of a field at bit 0 (20_memory.md R106) -/

/-- The field that a write through an alias gives a register that holds one field, at bit 0. -/
theorem fieldWritten_zext {w : Nat} (hw : w ≤ 32) (op : AliasOp) (old : BitVec w) (v : Word) :
    FieldWritten op old (fieldAt (aliasApply op (zext old) v) 0 w) v 0 := by
  refine fieldWritten_fieldAt op old (zext old) v 0 (by omega) fun k hk => ?_
  have h32 : k < 32 := by omega
  rw [Nat.zero_add, getLsbD_zext, decide_eq_true h32, Bool.true_and]

/-! ### RESETS (40_pin_mux.md R200, R202, R203) -/

/-- A register of RESETS holds one bit per block, at bits 24:0. -/
theorem reads_resets {i : Instr} {s : State} {f : BitVec 25} (he : exec i s = .next (respondLow f s)) :
    Reads i s 0x1FFFFFF (fun v => v.extractLsb' 0 25 = f) :=
  reads_of_respondLow (by omega) (by decide) he

/-- Settles O34: each read returns its stored field, and the write of WDSEL stores the field of the aliased
word. -/
theorem resetsReadsAndWdsel : Obligations.ResetsReadsAndWdsel := by
  intro s
  exact ⟨reads_resets rfl, reads_resets rfl, reads_resets rfl,
    fun op v => ⟨_, fieldWritten_zext (by omega) op s.resets.wdsel v, rfl⟩⟩

/-! ### SIO (40_pin_mux.md R261 to R263) -/

/-- Bit `k` of the word written is the bit of pin `k`. -/
theorem getLsbD_pinBits (v : Word) {k : Nat} (hk : k < 30) : (pinBits v).getLsbD k = v.getLsbD k := by
  rw [pinBits, getLsbD_fieldAt v 0 30 k hk, Nat.zero_add]

/-- The SET write, pin by pin. -/
theorem getLsbD_or_pinBits (r : BitVec 30) (v : Word) {k : Nat} (hk : k < 30) :
    (r ||| pinBits v).getLsbD k = (r.getLsbD k || v.getLsbD k) := by
  rw [BitVec.getLsbD_or, getLsbD_pinBits v hk]

/-- The CLR write, pin by pin. -/
theorem getLsbD_andNot_pinBits (r : BitVec 30) (v : Word) {k : Nat} (hk : k < 30) :
    (r &&& ~~~pinBits v).getLsbD k = (r.getLsbD k && !v.getLsbD k) := by
  rw [BitVec.getLsbD_and, BitVec.getLsbD_not, getLsbD_pinBits v hk, decide_eq_true hk, Bool.true_and]

/-- The XOR write, pin by pin. -/
theorem getLsbD_xor_pinBits (r : BitVec 30) (v : Word) {k : Nat} (hk : k < 30) :
    (r ^^^ pinBits v).getLsbD k = (r.getLsbD k != v.getLsbD k) := by
  rw [BitVec.getLsbD_xor, getLsbD_pinBits v hk]

/-- GPIO_OUT and GPIO_OE hold one bit per pin, at bits 29:0. -/
theorem reads_pins {i : Instr} {s : State} {f : BitVec 30} (he : exec i s = .next (respondLow f s)) :
    Reads i s 0x3FFFFFFF (fun v => v.extractLsb' 0 30 = f) :=
  reads_of_respondLow (by omega) (by decide) he

/-- Settles O44: each write stores its combination of the old pins and the word, each read answers with its
register, a free word or 0. -/
theorem sioAccesses : Obligations.SioAccesses := by
  intro v s outBecomes oeBecomes
  refine ⟨?outWrite, ?outSet, ?outClr, ?outXor, ?oeWrite, ?oeSet, ?oeClr, ?oeXor, reads_pins rfl,
    reads_pins rfl, reads_of_respondFree rfl, reads_of_respondFree rfl, reads_of_respondFree rfl,
    reads_of_respondFree rfl, reads_of_respondFree rfl, reads_of_respondFree rfl, rfl⟩
  case outWrite | oeWrite => exact ⟨_, fun _ hk => getLsbD_pinBits v hk, rfl⟩
  case outSet | oeSet => exact ⟨_, fun _ hk => getLsbD_or_pinBits _ v hk, rfl⟩
  case outClr | oeClr => exact ⟨_, fun _ hk => getLsbD_andNot_pinBits _ v hk, rfl⟩
  case outXor | oeXor => exact ⟨_, fun _ hk => getLsbD_xor_pinBits _ v hk, rfl⟩

end Sys2Proof.Proofs.PinMux
end

section
/-! The write of IC_ENABLE that turns the controller on (41_i2c_config.md R320, R330): what it answers for each
outcome of the admission check, and that outcome at the reset values. -/

namespace Sys2Proof.Proofs.I2cEnable

open Sys2Proof Sys2Proof.Machine Sys2Proof.Laws

/-! ### The effective counts (41_i2c_config.md R330) -/

/-- The high count in force, as a number. -/
theorem toNat_hcntEff (r : I2cRegs) :
    (hcntEff r).toNat = if r.con.speed = 1#2 then r.ssHcnt.toNat else r.fsHcnt.toNat :=
  apply_ite BitVec.toNat _ _ _

/-- The low count in force, as a number. -/
theorem toNat_lcntEff (r : I2cRegs) :
    (lcntEff r).toNat = if r.con.speed = 1#2 then r.ssLcnt.toNat else r.fsLcnt.toNat :=
  apply_ite BitVec.toNat _ _ _

/-! ### The admission check -/

/-- The tests of the admission check, in order, over whatever answers their outcome. -/
theorem apply_admissionFailure {α : Type} (answer : Option Reason → α) (r : I2cRegs) :
    answer (admissionFailure r) =
      if r.con.masterMode = false then answer (some .enableSlaveMode)
      else if r.con.slaveDisable = false then answer (some .enableSlaveMode)
      else if r.con.tenBitAddrMaster = true then answer (some .enable10bit)
      else if r.tar.special = true then answer (some .enableSpecial)
      else if (hcntEff r).toNat ≤ r.fsSpklen.toNat + 5 then answer (some .enableHcntTooSmall)
      else if (lcntEff r).toNat ≤ r.fsSpklen.toNat + 7 then answer (some .enableLcntTooSmall)
      else if (lcntEff r).toNat ≤ r.sdaTxHold.toNat + 2 then answer (some .enableSdaHoldTooLong)
      else answer none := by
  simp only [admissionFailure, apply_ite answer]

/-- The reset values fail the high count's test: HCNT is 6, SPKLEN is 7. -/
theorem admissionFailure_reset : admissionFailure I2cRegs.reset = some .enableHcntTooSmall := by decide

/-! ### The write that turns the controller on -/

/-- The state after a write of IC_ENABLE that the admission check lets through. -/
def switchedOn (v : Word) (s : State) : State :=
  storeEnable true (v.getLsbD 1) (v.getLsbD 2) { s with ctrl := { s.ctrl with icEn := true } }

/-- What a write of IC_ENABLE that turns the controller on makes of an outcome of the admission check. -/
def answerAdmission (v : Word) (s : State) : Option Reason → State
  | some r => refuse r s
  | none => switchedOn v s

/-- Turning the controller on answers the outcome of the admission check: bit 0 set and the controller off
leave only the last case of the write. -/
theorem writeEnable_on {v : Word} {s : State} (hoff : s.ctrl.icEn = false) (hv : v.getLsbD 0 = true) :
    writeEnable v s = answerAdmission v s (admissionFailure s.i2c) := by
  have outcome := writeEnable_cases v s
  simp only [hv, hoff, Bool.true_eq_false, Bool.false_eq_true, false_and, and_false, false_or,
    true_and] at outcome
  obtain ⟨r, hf, hw⟩ | ⟨hf, hw⟩ := outcome
  · rw [hw, hf, answerAdmission]
  · rw [hw, hf, answerAdmission, switchedOn]

/-- The same for the instruction, with I2C0 out of reset. -/
theorem exec_wrIcEnable_on {v : Word} {s : State} (hdone : s.resets.done.getLsbD 3 = true)
    (hoff : s.ctrl.icEn = false) (hv : v.getLsbD 0 = true) :
    exec (.wrIcEnable v) s = .next (answerAdmission v s (admissionFailure s.i2c)) :=
  calc exec (.wrIcEnable v) s
    _ = .next (inBlock i2cBit (writeEnable v) s) := rfl
    _ = .next (writeEnable v s) := by rw [inBlock_open (b := i2cBit) hdone]
    _ = .next (answerAdmission v s (admissionFailure s.i2c)) := by rw [writeEnable_on hoff hv]

/-- Settles O25: the write answers the outcome of the admission check, whose tests are then pushed through the
answer one by one; at the reset values the outcome is computed. -/
theorem admissionCheck : Obligations.AdmissionCheck := by
  refine ⟨fun v s hdone hoff hv => ?tests, fun v s hdone hv hi2c hctrl => ?atReset⟩
  case tests =>
    rw [exec_wrIcEnable_on hdone hoff hv, apply_admissionFailure (answerAdmission v s),
      toNat_hcntEff, toNat_lcntEff]
    rfl
  case atReset =>
    have hoff : s.ctrl.icEn = false := congrArg Ctrl.icEn hctrl
    have hfail : admissionFailure s.i2c = some .enableHcntTooSmall := by
      rw [hi2c]
      exact admissionFailure_reset
    rw [exec_wrIcEnable_on hdone hoff hv, hfail, answerAdmission]

end Sys2Proof.Proofs.I2cEnable
end

section
/-! IC_DATA_CMD (42_i2c_data_status.md R350, R355): what a write and a read of it do in each case of the
controller's state, with I2C0 out of reset. -/

namespace Sys2Proof.Proofs.I2cData

open Sys2Proof Sys2Proof.Machine Sys2Proof.Safety Sys2Proof.Laws

/-! ### Answers (20_memory.md R102) -/

/-- Answering with a free word changes the answer and the moment alone. -/
theorem respondFree_eq_answered (s : State) : ∃ v, respondFree s = answered s v 1 := ⟨_, rfl⟩

/-- Answering with a field at bit 0 changes the answer and the moment alone, and the answer holds the field. -/
theorem respondLow_eq_answered {w : Nat} (hw : w ≤ 32) (f : BitVec w) (s : State) :
    ∃ v, respondLow f s = answered s v 1 ∧ v.extractLsb' 0 w = f :=
  ⟨_, rfl, PinMux.extractLsb'_eq_of_agrees hw fun j hj =>
    masked_getLsbD _ _ _ j ((PinMux.getLsbD_lowMask hw j).trans (decide_eq_true hj))⟩

/-! ### The two instructions, with I2C0 out of reset (20_memory.md R111) -/

/-- A write of IC_DATA_CMD pushes a command. -/
theorem exec_wrIcDataCmd_open {s : State} (hdone : s.resets.done.getLsbD 3 = true) (v : Word) :
    exec (.wrIcDataCmd v) s = .next (pushCommand v s) :=
  congrArg Host.Outcome.next (inBlock_open (b := i2cBit) hdone _)

/-- A read of IC_DATA_CMD pops a byte. -/
theorem exec_rdIcDataCmd_open {s : State} (hdone : s.resets.done.getLsbD 3 = true) :
    exec .rdIcDataCmd s = .next (popByte s) :=
  congrArg Host.Outcome.next (inBlock_open (b := i2cBit) hdone _)

/-! ### The push of a command (42_i2c_data_status.md R350) -/

theorem pushCommand_of_disabled {s : State} (hoff : s.ctrl.icEn = false) (v : Word) :
    pushCommand v s = refuse .dataCmdWhileDisabled s := by
  simpa [hoff] using pushCommand_cases v s

theorem pushCommand_of_flushHold {s : State} (hon : s.ctrl.icEn = true)
    (hhold : s.ctrl.flushHold = true) (v : Word) :
    pushCommand v s = refuse .dataCmdDuringFlush s := by
  simpa [hon, hhold] using pushCommand_cases v s

/-- An admitted push: what becomes of the command turns on the room in TXQ alone. -/
theorem pushCommand_of_admitted {s : State} (hon : s.ctrl.icEn = true)
    (hhold : s.ctrl.flushHold = false) (v : Word) :
    pushCommand v s = if s.ctrl.txq.length = 16 then setRaw s { s.ctrl.raw with txOver := true }
      else { s with ctrl := { s.ctrl with txq := s.ctrl.txq ++ [cmdOfWord v] } } := by
  split
  case isTrue hfull => simpa [hon, hhold, hfull] using pushCommand_cases v s
  case isFalse hroom => simpa [hon, hhold, hroom] using pushCommand_cases v s

/-! ### The pop of a byte (42_i2c_data_status.md R355) -/

theorem popByte_of_disabled {s : State} (hoff : s.ctrl.icEn = false) :
    popByte s = refuse .dataCmdWhileDisabled s := by
  simpa [hoff] using popByte_cases s

theorem popByte_of_empty {s : State} (hon : s.ctrl.icEn = true) (hempty : s.ctrl.rxq = []) :
    popByte s = respondFree (setRaw s { s.ctrl.raw with rxUnder := true }) := by
  simpa [hon, hempty] using popByte_cases s

theorem popByte_of_cons {s : State} {b : Byte} {rest : List Byte} (hon : s.ctrl.icEn = true)
    (hrxq : s.ctrl.rxq = b :: rest) :
    popByte s = respondLow b { s with ctrl := { s.ctrl with rxq := rest } } := by
  simpa [hon, hrxq] using popByte_cases s

/-- Settles O24: with the block open a write is the push and a read the pop, and each clause is one of their
cases. -/
theorem dataCmdAccesses : Obligations.DataCmdAccesses := by
  intro s hdone
  refine ⟨fun hoff => ⟨?readOff, fun v => ?writeOff⟩, fun hon hhold v => ?writeHeld,
    fun hon hhold v => ?writeOn, fun hon hempty => ?readEmpty, fun b rest hon hrxq => ?readByte⟩
  case readOff => rw [exec_rdIcDataCmd_open hdone, popByte_of_disabled hoff]
  case writeOff => rw [exec_wrIcDataCmd_open hdone, pushCommand_of_disabled hoff]
  case writeHeld => rw [exec_wrIcDataCmd_open hdone, pushCommand_of_flushHold hon hhold]
  case writeOn =>
    rw [exec_wrIcDataCmd_open hdone, pushCommand_of_admitted hon hhold]
    rfl
  case readEmpty =>
    obtain ⟨v, hv⟩ := respondFree_eq_answered (setRaw s { s.ctrl.raw with rxUnder := true })
    exact ⟨v, by rw [exec_rdIcDataCmd_open hdone, popByte_of_empty hon hempty, hv]; rfl⟩
  case readByte =>
    obtain ⟨v, hv, hbyte⟩ :=
      respondLow_eq_answered (by omega) b { s with ctrl := { s.ctrl with rxq := rest } }
    exact ⟨v, by rw [exec_rdIcDataCmd_open hdone, popByte_of_cons hon hrxq, hv], hbyte⟩

end Sys2Proof.Proofs.I2cData
end

section
/-! The steps of the controller that decode no command (43_i2c_fsm.md R423, R450): their guards, which
exclude each other and S_XFER's, the turn that each guard gives, and the effect of each step. -/

namespace Sys2Proof.Proofs.I2cFsm

open Sys2Proof Sys2Proof.Machine Sys2Proof.Safety Sys2Proof.Laws

/-! ### The guards (43_i2c_fsm.md R423, R429, R450) -/

/-- The part of every guard of the controller. -/
theorem ctrlLive_iff (s : State) :
    ctrlLive s = true ↔ s.ctrl.icEn = true ∧ s.resets.reset.getLsbD 3 = false := by
  rw [ctrlLive, Bool.and_eq_true, Bool.not_eq_true', i2cBit]

/-- The guard of S_POP, as its clauses. -/
theorem popEnabled_iff (s : State) : popEnabled s = true ↔
    s.ctrl.icEn = true ∧ s.resets.reset.getLsbD 3 = false ∧ s.i2c.enable.abort = false ∧
    s.ctrl.flushHold = false ∧ s.i2c.enable.txCmdBlock = false ∧ s.ctrl.shift = none ∧
    s.ctrl.txq ≠ [] := by
  simp only [popEnabled, Bool.and_eq_true, ctrlLive_iff, Bool.not_eq_true', Option.isNone_iff_eq_none,
    List.isEmpty_eq_false_iff, and_assoc]

/-- The guard of S_ABORT, as its clauses. -/
theorem abortEnabled_iff (s : State) : abortEnabled s = true ↔
    s.ctrl.icEn = true ∧ s.resets.reset.getLsbD 3 = false ∧ s.i2c.enable.abort = true := by
  rw [abortEnabled, Bool.and_eq_true, ctrlLive_iff, and_assoc]

/-- S_XFER has a command in hand and no abort requested. -/
theorem shift_and_abort_of_xferReady {s : State} (h : xferReady s = true) :
    (∃ c, s.ctrl.shift = some c) ∧ s.i2c.enable.abort = false := by
  unfold xferReady at h
  split at h
  case h_1 c hshift =>
    obtain ⟨-, -, habort, -⟩ := (xferEnabled_iff c s).mp h
    exact ⟨⟨c, hshift⟩, habort⟩
  case h_2 => cases h

/-- S_POP and S_XFER exclude each other: one needs the hand empty, the other full. -/
theorem xferReady_eq_false_of_popEnabled {s : State} (h : popEnabled s = true) : xferReady s = false := by
  obtain ⟨-, -, -, -, -, hshift, -⟩ := (popEnabled_iff s).mp h
  refine eq_false_of_ne_true fun hx => ?_
  obtain ⟨⟨c, hc⟩, -⟩ := shift_and_abort_of_xferReady hx
  cases hshift.symm.trans hc

/-- S_ABORT and S_XFER exclude each other, by the request. -/
theorem xferReady_eq_false_of_abortEnabled {s : State} (h : abortEnabled s = true) : xferReady s = false := by
  obtain ⟨-, -, habort⟩ := (abortEnabled_iff s).mp h
  refine eq_false_of_ne_true fun hx => ?_
  obtain ⟨-, hno⟩ := shift_and_abort_of_xferReady hx
  cases habort.symm.trans hno

/-- S_ABORT and S_POP exclude each other, by the request. -/
theorem abortEnabled_eq_false_of_popEnabled {s : State} (h : popEnabled s = true) : abortEnabled s = false := by
  obtain ⟨-, -, hno, -⟩ := (popEnabled_iff s).mp h
  refine eq_false_of_ne_true fun ha => ?_
  obtain ⟨-, -, habort⟩ := (abortEnabled_iff s).mp ha
  cases habort.symm.trans hno

/-! ### Beginning a turn -/

/-- Beginning a turn leaves the guard of S_POP. -/
theorem popEnabled_beginTurn (s : State) : popEnabled (beginTurn s) = popEnabled s := by
  rw [Bool.eq_iff_iff, popEnabled_iff, popEnabled_iff, beginTurn_ctrl, beginTurn_resets, beginTurn_i2c]

/-- Beginning a turn leaves the guard of S_ABORT. -/
theorem abortEnabled_beginTurn (s : State) : abortEnabled (beginTurn s) = abortEnabled s := by
  rw [Bool.eq_iff_iff, abortEnabled_iff, abortEnabled_iff, beginTurn_ctrl, beginTurn_resets, beginTurn_i2c]

/-- Beginning a turn leaves the connection of the pins. -/
theorem wired_beginTurn (s : State) : wired (beginTurn s) = wired s :=
  wired_congr (beginTurn_io s) (beginTurn_pads s)

/-! ### A turn of the controller that performs no command -/

/-- A controller turn whose command, if there is one, waits, decodes nothing. -/
theorem step_ctrl_local {s : State} (hturn : nextTurn s = .ctrl)
    (hwait : xferReady (beginTurn s) = false) : step s = .next (ctrlLocal (beginTurn s)) := by
  have hfetch : fetch (nextTurn s) (beginTurn s) = none := by
    rw [hturn, fetch, ctrlFetch, hwait, if_neg Bool.false_ne_true]
  obtain ⟨t, ht⟩ := step_next s
  rcases step_cases ht with ⟨c, i, u, hc, -⟩ | ⟨c, r, hc, -⟩ | ⟨-, hlocal⟩
  · cases hfetch.symm.trans hc
  · cases hfetch.symm.trans hc
  · rw [ht, hlocal, hturn, localStep]

/-- A controller turn under the guard of S_POP. -/
theorem step_of_popEnabled {s : State} (hturn : nextTurn s = .ctrl) (h : popEnabled s = true) :
    step s = .next (settle (popCommand (beginTurn s))) := by
  rw [← popEnabled_beginTurn] at h
  rw [step_ctrl_local hturn (xferReady_eq_false_of_popEnabled h), ctrlLocal,
    abortEnabled_eq_false_of_popEnabled h, if_neg Bool.false_ne_true, if_pos h]

/-- A controller turn under the guard of S_ABORT. -/
theorem step_of_abortEnabled {s : State} (hturn : nextTurn s = .ctrl) (h : abortEnabled s = true) :
    step s = .next (settle (userAbort (beginTurn s))) := by
  rw [← abortEnabled_beginTurn] at h
  rw [step_ctrl_local hturn (xferReady_eq_false_of_abortEnabled h), ctrlLocal, if_pos h]

/-! ### S_POP (43_i2c_fsm.md R423) -/

/-- Taking a command in hand, where there is one. -/
theorem popCommand_of_cons {s : State} {c : Cmd} {rest : List Cmd} (h : s.ctrl.txq = c :: rest) :
    popCommand s = { s with ctrl := { s.ctrl with
      shift := some c, txq := rest, raw := { s.ctrl.raw with activity := true } } } := by
  rw [popCommand, h]

/-- Settles O46: under the guard the turn is S_POP's, and the queue's head is its command. -/
theorem popStep : Obligations.PopStep := by
  refine ⟨popEnabled_iff, fun s c rest hturn hon hrst hab hhold hblk hshift htxq => ?_⟩
  have hpop : popEnabled s = true :=
    (popEnabled_iff s).mpr ⟨hon, hrst, hab, hhold, hblk, hshift, htxq ▸ List.cons_ne_nil c rest⟩
  have hhead : (beginTurn s).ctrl.txq = c :: rest := by rw [beginTurn_ctrl, htxq]
  rw [step_of_popEnabled hturn hpop, popCommand_of_cons hhead, beginTurn_ctrl]

/-! ### S_ABORT (43_i2c_fsm.md R450) -/

/-- What S_ABORT emits: a pending ACK slot as MNACK, and STOP where the bus is held. -/
def abortEvents (c : Ctrl) : List BusEvent :=
  (if c.rxAckPending then [.mnack] else []) ++ (if c.owned then [.stop] else [])

/-- The first part of S_ABORT: a pending ACK slot is answered MNACK. -/
def answerPendingAck (s : State) : State :=
  if s.ctrl.rxAckPending then
    { emit .mnack s with ctrl := { (emit .mnack s).ctrl with rxAckPending := false } }
  else s

/-- The second part of S_ABORT: a held bus is given up with STOP. -/
def stopHeldBus (s : State) : State := if s.ctrl.owned then setStopDet (emit .stop s) else s

/-- S_ABORT is the two parts, the abort entry with the user's cause, and the end of the request. -/
theorem userAbort_eq_parts (s : State) :
    let r := abortEntry .userAbort (stopHeldBus (answerPendingAck s))
    userAbort s = { r with i2c := { r.i2c with enable := { r.i2c.enable with abort := false } } } := rfl

/-- The first part, whole. -/
theorem answerPendingAck_eq (s : State) :
    let evs : List BusEvent := if s.ctrl.rxAckPending then [.mnack] else []
    answerPendingAck s = { s with
      ctrl := { s.ctrl with rxAckPending := false, segments := s.ctrl.segments ++ segmentsOf s evs }
      trace := s.trace ++ evs.map (fun e => ⟨e, wired s⟩) } := by
  cases hack : s.ctrl.rxAckPending with
  | true => simp [answerPendingAck, hack, segmentsOf, emit]
  | false =>
    have hctrl : { s.ctrl with rxAckPending := false } = s.ctrl := by rw [← hack]
    simp [answerPendingAck, hack, segmentsOf, hctrl]

/-- The second part, whole. -/
theorem stopHeldBus_eq (s : State) :
    let evs : List BusEvent := if s.ctrl.owned then [.stop] else []
    stopHeldBus s = { s with
      ctrl := { s.ctrl with
        raw := { s.ctrl.raw with stopDet := s.ctrl.owned || s.ctrl.raw.stopDet }
        segments := s.ctrl.segments ++ segmentsOf s evs }
      trace := s.trace ++ evs.map (fun e => ⟨e, wired s⟩) } := by
  cases hown : s.ctrl.owned with
  | true => simp [stopHeldBus, hown, segmentsOf, setStopDet, setRaw, emit]
  | false =>
    have hctrl : { s.ctrl with owned := false } = s.ctrl := by rw [← hown]
    simp [stopHeldBus, hown, segmentsOf, hctrl]

/-- The whole effect of S_ABORT. -/
theorem userAbort_eq (s : State) : userAbort s = { s with
    i2c := { s.i2c with
      abrtSource := s.i2c.abrtSource ||| BitVec.twoPow 17 16
      txFlushCnt := BitVec.ofNat 9 s.ctrl.txq.length
      enable := { s.i2c.enable with abort := false } }
    ctrl := { s.ctrl with
      txq := [], shift := none, owned := false, rxAckPending := false, flushHold := true
      raw := { s.ctrl.raw with txAbrt := true, stopDet := s.ctrl.owned || s.ctrl.raw.stopDet }
      segments := s.ctrl.segments ++ segmentsOf s (abortEvents s.ctrl) }
    trace := s.trace ++ (abortEvents s.ctrl).map (fun e => ⟨e, wired s⟩) } := by
  have hsegments : segmentsOf s (abortEvents s.ctrl) =
      segmentsOf s (if s.ctrl.rxAckPending then [.mnack] else []) ++
        segmentsOf s (if s.ctrl.owned then [.stop] else []) := List.flatMap_append
  rw [userAbort_eq_parts, stopHeldBus_eq, answerPendingAck_eq, hsegments, abortEvents, List.map_append,
    ← List.append_assoc, ← List.append_assoc]
  rfl

/-- Settles O55: under the guard the turn is S_ABORT's, and beginning the turn leaves what its effect reads. -/
theorem userAbortStep : Obligations.UserAbortStep := by
  refine ⟨abortEnabled_iff, fun s hturn hon hrst hab => ?_⟩
  have habort : abortEnabled s = true := (abortEnabled_iff s).mpr ⟨hon, hrst, hab⟩
  refine ⟨s.ctrl.segments ++ segmentsOf (beginTurn s) (abortEvents s.ctrl), ?_⟩
  rw [step_of_abortEnabled hturn habort, userAbort_eq, wired_beginTurn, beginTurn_i2c, beginTurn_ctrl,
    beginTurn_trace, abortEvents]

end Sys2Proof.Proofs.I2cFsm
end

section
/-! Encoding (30_encoding.md): that no two rows of the opcode table answer one access, so that an access which hits
a row decodes to what that row builds, the round trip through the words, and the reasons of a refused access. -/

namespace Sys2Proof.Proofs.Encoding

open Sys2Proof Sys2Proof.Machine Sys2Proof.Safety Sys2Proof.Laws

/-! ### No two rows match one access (30_encoding.md R152) -/

/-- Two patterns, each a mask and a match, differ in a bit that both masks fix. -/
def apart (p q : BitVec 33 × BitVec 33) : Bool := (p.1 &&& q.1 &&& (p.2 ^^^ q.2)) != 0#33

/-- The pattern of a row, without its constraint. -/
def pattern (r : AccRow) : BitVec 33 × BitVec 33 := (r.mask, r.mtch)

/-- No access matches two patterns that are apart. -/
theorem not_hits_both_of_apart {r q : AccRow} (h : apart (pattern r) (pattern q) = true) (acc : BitVec 33) :
    ¬ (r.hits acc = true ∧ q.hits acc = true) := by
  rintro ⟨hr, hq⟩
  obtain ⟨hr, -⟩ := (Bool.and_eq_true _ _).mp hr
  obtain ⟨hq, -⟩ := (Bool.and_eq_true _ _).mp hq
  have hzero : r.mask &&& q.mask &&& (r.mtch ^^^ q.mtch) = 0#33 := by
    rw [← eq_of_beq hr, ← eq_of_beq hq]
    ext i hi
    simp only [BitVec.getElem_and, BitVec.getElem_xor, BitVec.getElem_zero]
    cases acc[i] <;> cases r.mask[i] <;> cases q.mask[i] <;> rfl
  exact absurd hzero (by simpa [apart, pattern] using h)

/-- Two patterns are apart, or the first fixes the pad index `off[6:2]` to 0 and the second leaves it open: the
rows of VOLTAGE_SELECT and of the pad family (30_encoding.md R162). -/
def apartOrPad (p q : BitVec 33 × BitVec 33) : Bool :=
  apart p q || (p.1.extractLsb' 2 5 == BitVec.allOnes 5 && p.2.extractLsb' 2 5 == 0#5 &&
    q.1.extractLsb' 2 5 == 0#5)

set_option maxRecDepth 20000 in
theorem pairwise_apartOrPad : (accRows.map pattern).Pairwise (fun p q => apartOrPad p q = true) := by
  decide

/-- A row that leaves the pad index open is one of the pad family. -/
theorem ok_eq_padPinHolds {r : AccRow} (hr : r ∈ accRows) (h : r.mask.extractLsb' 2 5 = 0#5) :
    r.ok = padPinHolds := by
  have others : ∀ q ∈ i2cConfigRows ++ i2cClearRows ++ i2cHighRows ++ resetsRows ++ ioRows ++ sioRows,
      q.mask.extractLsb' 2 5 ≠ 0#5 := by decide
  have pads : ∀ q ∈ padsRows, q.mask.extractLsb' 2 5 = 0#5 → q.ok = padPinHolds := by
    intro q hq
    simp only [padsRows, List.mem_cons, List.not_mem_nil, or_false] at hq
    obtain rfl | rfl | rfl | rfl := hq
    · exact fun h => absurd h (by decide)
    · exact fun h => absurd h (by decide)
    · exact fun _ => rfl
    · exact fun _ => rfl
  by_cases hp : r ∈ padsRows
  · exact pads r hp h
  · simp only [accRows, List.mem_append, hp, or_false] at hr
    exact absurd h (others r (by simpa only [List.mem_append] using hr))

/-- A row that fixes the pad index to 0 excludes the pad family, whose constraint asks for another index. -/
theorem not_hits_both_of_pad {r q : AccRow} (hq : q ∈ accRows)
    (hmask : r.mask.extractLsb' 2 5 = BitVec.allOnes 5) (hmtch : r.mtch.extractLsb' 2 5 = 0#5)
    (hopen : q.mask.extractLsb' 2 5 = 0#5) (acc : BitVec 33) :
    ¬ (r.hits acc = true ∧ q.hits acc = true) := by
  rintro ⟨hr, hp⟩
  obtain ⟨hr, -⟩ := (Bool.and_eq_true _ _).mp hr
  obtain ⟨-, hok⟩ := (Bool.and_eq_true _ _).mp hp
  have hz : acc.extractLsb' 2 5 = 0#5 := by
    rw [← hmtch, ← eq_of_beq hr, BitVec.extractLsb'_and, hmask, BitVec.and_allOnes]
  simp [ok_eq_padPinHolds hq hopen, padPinHolds, hz] at hok

/-- Settles O3: any two rows are apart, but for a pad row after the row of VOLTAGE_SELECT. -/
theorem accRowsNeverOverlap : Obligations.AccRowsNeverOverlap := by
  refine (List.pairwise_map.mp pairwise_apartOrPad).imp_of_mem fun {r q} _ hq h acc => ?_
  simp only [apartOrPad, Bool.or_eq_true, Bool.and_eq_true, beq_iff_eq] at h
  obtain hapart | ⟨⟨hmask, hmtch⟩, hopen⟩ := h
  · exact not_hits_both_of_apart hapart acc
  · exact not_hits_both_of_pad hq hmask hmtch hopen acc

/-! ### An access that hits a row decodes to what the row builds (30_encoding.md R152) -/

/-- The row that an access hits is the only one. -/
theorem eq_of_hits {r q : AccRow} {acc : BitVec 33} (hr : r ∈ accRows) (hq : q ∈ accRows)
    (hits : r.hits acc = true) (hits' : q.hits acc = true) : r = q := by
  by_contra hne
  have symm : Std.Symm fun r q : AccRow => ∀ acc : BitVec 33, ¬ (r.hits acc = true ∧ q.hits acc = true) :=
    ⟨fun _ _ h acc hboth => h acc hboth.symm⟩
  exact accRowsNeverOverlap.forall hr hq hne acc ⟨hits, hits'⟩

/-- An aligned access decodes to what the row it hits builds. -/
theorem decode_of_hits {r : AccRow} {acc : BitVec 33} (hr : r ∈ accRows) (hits : r.hits acc = true)
    (halign : acc.extractLsb' 0 2 = 0#2) (v : Word) : decode (.acc 4 acc v) = .ok (r.build acc v) := by
  obtain ⟨i, hi⟩ := decodeAcc_of_matches v halign (List.any_eq_true.mpr ⟨r, hr, hits⟩)
  obtain ⟨-, -, q, hq, hits', rfl⟩ := decodeAcc_ok hi
  rw [decode, hi, eq_of_hits hr hq hits hits']

/-- Settles O2: a row's constraint is the well-formedness of what it builds, and a command is well formed. -/
theorem decodedInstructionsAreWellFormed : Obligations.DecodedInstructionsAreWellFormed := by
  intro c i h
  cases c with
  | acc n acc v => exact (Memory.decode_acc_gate h).1
  | cmdw w => cases h; exact wf_instrOfCmd _

/-- The words of a command decode to it. -/
theorem decode_wordOfCmd (c : Cmd) : decode (.cmdw (wordOfCmd c)) = .ok (instrOfCmd c) := by
  rw [decode, cmdOfWord_wordOfCmd]

/-! ### The words of an instruction -/

theorem ioRows_mem (k : Nat) (h : k < ioRows.length) : ioRows[k] ∈ accRows := by
  simp only [accRows, List.mem_append]
  exact .inl (.inl (.inr (List.getElem_mem h)))

theorem padsRows_mem (k : Nat) (h : k < padsRows.length) : padsRows[k] ∈ accRows := by
  simp only [accRows, List.mem_append]
  exact .inl (.inr (List.getElem_mem h))

/-- A pin's STATUS address carries the pin, and hits the row of the family (30_encoding.md R162). -/
theorem gpioStatus_fields : ∀ n : BitVec 5, pinOk n = true →
    let acc := accOf false blkIo .normal (gpioStatusOff n)
    ioPinOfAcc acc = n ∧ acc.extractLsb' 0 2 = 0#2 ∧ ioRows[0].hits acc = true := by decide

/-- A pin's CTRL address carries the pin and the alias. -/
theorem gpioCtrl_fields (w : Bool) (op : AliasOp) : ∀ n : BitVec 5, pinOk n = true →
    let acc := accOf w blkIo op (gpioCtrlOff n)
    ioPinOfAcc acc = n ∧ opOfAcc acc = op ∧ acc.extractLsb' 0 2 = 0#2 ∧
      (w = false → op = .normal → ioRows[1].hits acc = true) ∧ (w = true → ioRows[2].hits acc = true) := by
  cases w <;> cases op <;> decide

/-- A pad's address carries the pin and the alias. -/
theorem padGpio_fields (w : Bool) (op : AliasOp) : ∀ n : BitVec 5, pinOk n = true →
    let acc := accOf w blkPads op (padOff n)
    padPinOfAcc acc = n ∧ opOfAcc acc = op ∧ acc.extractLsb' 0 2 = 0#2 ∧
      (w = false → op = .normal → padsRows[2].hits acc = true) ∧ (w = true → padsRows[3].hits acc = true) := by
  cases w <;> cases op <;> decide

/-- The words of a read of GPIOn_STATUS decode to it. -/
theorem decode_rdGpioStatus {n : BitVec 5} (hn : pinOk n = true) :
    decode (encode (.rdGpioStatus n)) = .ok (.rdGpioStatus n) := by
  obtain ⟨hpin, halign, hits⟩ := gpioStatus_fields n hn
  exact (decode_of_hits (ioRows_mem 0 (by decide)) hits halign 0).trans
    (congrArg (fun m => Except.ok (Instr.rdGpioStatus m)) hpin)

/-- The words of a read of GPIOn_CTRL decode to it. -/
theorem decode_rdGpioCtrl {n : BitVec 5} (hn : pinOk n = true) :
    decode (encode (.rdGpioCtrl n)) = .ok (.rdGpioCtrl n) := by
  obtain ⟨hpin, -, halign, hits, -⟩ := gpioCtrl_fields false .normal n hn
  exact (decode_of_hits (ioRows_mem 1 (by decide)) (hits rfl rfl) halign 0).trans
    (congrArg (fun m => Except.ok (Instr.rdGpioCtrl m)) hpin)

/-- The words of a write of GPIOn_CTRL decode to it. -/
theorem decode_wrGpioCtrl {n : BitVec 5} (hn : pinOk n = true) (op : AliasOp) (v : Word) :
    decode (encode (.wrGpioCtrl n op v)) = .ok (.wrGpioCtrl n op v) := by
  obtain ⟨hpin, hop, halign, -, hits⟩ := gpioCtrl_fields true op n hn
  exact (decode_of_hits (ioRows_mem 2 (by decide)) (hits rfl) halign v).trans
    (congrArg₂ (fun m o => Except.ok (Instr.wrGpioCtrl m o v)) hpin hop)

/-- The words of a read of a pad decode to it. -/
theorem decode_rdPadGpio {n : BitVec 5} (hn : pinOk n = true) :
    decode (encode (.rdPadGpio n)) = .ok (.rdPadGpio n) := by
  obtain ⟨hpin, -, halign, hits, -⟩ := padGpio_fields false .normal n hn
  exact (decode_of_hits (padsRows_mem 2 (by decide)) (hits rfl rfl) halign 0).trans
    (congrArg (fun m => Except.ok (Instr.rdPadGpio m)) hpin)

/-- The words of a write of a pad decode to it. -/
theorem decode_wrPadGpio {n : BitVec 5} (hn : pinOk n = true) (op : AliasOp) (v : Word) :
    decode (encode (.wrPadGpio n op v)) = .ok (.wrPadGpio n op v) := by
  obtain ⟨hpin, hop, halign, -, hits⟩ := padGpio_fields true op n hn
  exact (decode_of_hits (padsRows_mem 3 (by decide)) (hits rfl) halign v).trans
    (congrArg₂ (fun m o => Except.ok (Instr.wrPadGpio m o v)) hpin hop)

/-- Settles O1: a register at a fixed address is found by searching the rows, at each alias of a write; a pin's and
a command's words give back the operands they carry. -/
theorem decodeEncodeRoundTrip : Obligations.DecodeEncodeRoundTrip := by
  intro i hwf
  cases i with
  | rdGpioStatus n => exact decode_rdGpioStatus hwf
  | rdGpioCtrl n => exact decode_rdGpioCtrl hwf
  | wrGpioCtrl n op v => exact decode_wrGpioCtrl hwf op v
  | rdPadGpio n => exact decode_rdPadGpio hwf
  | wrPadGpio n op v => exact decode_wrPadGpio hwf op v
  | wrIcCon op v | wrIcTar op v | wrIcSar op v | wrIcSsSclHcnt op v | wrIcSsSclLcnt op v
  | wrIcFsSclHcnt op v | wrIcFsSclLcnt op v | wrIcIntrMask op v | wrIcRxTl op v | wrIcTxTl op v
  | wrIcSdaHold op v | wrIcSlvDataNackOnly op v | wrIcDmaCr op v | wrIcDmaTdlr op v
  | wrIcDmaRdlr op v | wrIcSdaSetup op v | wrIcAckGeneralCall op v | wrIcFsSpklen op v
  | wrResetsReset op v | wrResetsWdsel op v | wrVoltageSelect op v => cases op <;> rfl
  | cmdW dat | cmdR dat | cmdWStop dat | cmdRStop dat | cmdWRestart dat | cmdRRestart dat
  | cmdWRestartStop dat | cmdRRestartStop dat => exact decode_wordOfCmd ⟨_, _, _, dat⟩
  | _ => rfl

/-- Settles O7: each word is the encoding of the instruction it stands for. -/
theorem sampleWordsDecode : Obligations.SampleWordsDecode :=
  ⟨decodeEncodeRoundTrip .rdIcCon rfl, decodeEncodeRoundTrip (.wrIcDataCmd 0x2AE) rfl,
    decodeEncodeRoundTrip (.wrResetsReset .setBits 8) rfl,
    decodeEncodeRoundTrip (.wrGpioCtrl 4 .normal 3) rfl,
    decodeEncodeRoundTrip (.wrPadGpio 4 .normal 0x5A) rfl,
    decodeEncodeRoundTrip (.wrSioGpioOutClr 0x10) rfl, decodeEncodeRoundTrip (.cmdWStop 0xAE) rfl⟩

/-! ### Command words (30_encoding.md R160, R161) -/

/-- The command of a word, from its class field and its byte. -/
theorem cmdOfWord_eq (w : Word) : cmdOfWord w =
    { cmd := (w.extractLsb' 8 3).getLsbD 0, stop := (w.extractLsb' 8 3).getLsbD 1
      restart := (w.extractLsb' 8 3).getLsbD 2, dat := w.extractLsb' 0 8 } := by
  simp [cmdOfWord, BitVec.getLsbD_extractLsb', -BitVec.getLsbD_eq_getElem]

/-- A word whose class field is `k` decodes to the command of `k`'s bits. -/
theorem decode_cmdw_of_class {w : Word} {k : BitVec 3} (h : w.extractLsb' 8 3 = k) :
    decode (.cmdw w) =
      .ok (instrOfCmd ⟨k.getLsbD 0, k.getLsbD 1, k.getLsbD 2, w.extractLsb' 0 8⟩) := by
  rw [decode, cmdOfWord_eq, h]

/-- Settles O6: each value of the class field has its own three bits. -/
theorem commandWordClasses : Obligations.CommandWordClasses := by
  intro w
  refine ⟨?_, ?_, ?_, ?_, ?_, ?_, ?_, ?_⟩ <;> exact fun h => decode_cmdw_of_class h

/-! ### The reasons of a refused access (30_encoding.md R153) -/

section Address

variable (w : Bool) (a : Word)

/-- An address field of an access is the address's. -/
theorem extractLsb'_access {lo n : Nat} (h : lo + n ≤ 32) :
    (BitVec.ofBool w ++ a).extractLsb' lo n = a.extractLsb' lo n := by
  apply BitVec.eq_of_getLsbD_eq
  intro i hi
  have hlt : lo + i < 32 := by omega
  rw [BitVec.getLsbD_extractLsb', BitVec.getLsbD_extractLsb', BitVec.getLsbD_append, if_pos hlt]

/-- The W bit of an access. -/
theorem getLsbD_access : (BitVec.ofBool w ++ a).getLsbD 32 = w := by
  rw [BitVec.getLsbD_append, if_neg (by omega), BitVec.getLsbD_ofBool]
  rfl

/-- The same access at alias 0. -/
theorem accAtAlias0_access : accAtAlias0 (BitVec.ofBool w ++ a) = BitVec.ofBool w ++ atAliasZero a := by
  have hmask : (0x1FFFFCFFF#33 : BitVec 33) = BitVec.ofBool true ++ 0xFFFFCFFF#32 := by decide
  have hw : BitVec.ofBool w &&& BitVec.ofBool true = BitVec.ofBool w := by cases w <;> rfl
  rw [accAtAlias0, hmask, BitVec.and_append, hw, atAliasZero]

/-- The same address as a read. -/
theorem accWithW_access : accWithW false (BitVec.ofBool w ++ a) = BitVec.ofBool false ++ a := by
  rw [accWithW, BitVec.setWidth_append_eq_right]

/-- Whether an address lies at an alias other than 0 of an aliased block, as the decoder computes it. -/
def offAlias : Bool := inAliasedBlock (BitVec.ofBool false ++ a) && decide (a.extractLsb' 12 2 ≠ 0#2)

/-- The decoder's test of an access is a test of its address. -/
theorem offAlias_access : (inAliasedBlock (BitVec.ofBool w ++ a) &&
    decide ((BitVec.ofBool w ++ a).extractLsb' 12 2 ≠ 0#2)) = offAlias a := by
  simp only [offAlias, inAliasedBlock, extractLsb'_access _ a (show 14 + 18 ≤ 32 by omega),
    extractLsb'_access _ a (show 12 + 2 ≤ 32 by omega)]

/-- The decoder's test is the statement's. -/
theorem offAlias_iff : offAlias a = true ↔ AtAlias a := by
  simp only [offAlias, inAliasedBlock, extractLsb'_access _ a (show 14 + 18 ≤ 32 by omega),
    Bool.and_eq_true, Bool.or_eq_true, beq_iff_eq, decide_eq_true_eq, or_assoc, AtAlias]

end Address

/-- An aligned access decodes exactly where a row matches it. -/
theorem accessDecodes_iff (w : Bool) {a : Word} (v : Word) (h : a.extractLsb' 0 2 = 0#2) :
    AccessDecodes w a v ↔ accMatches (BitVec.ofBool w ++ a) = true := by
  constructor
  · rintro ⟨i, hi⟩
    obtain ⟨-, -, r, hr, hits, -⟩ := decodeAcc_ok hi
    exact List.any_eq_true.mpr ⟨r, hr, hits⟩
  · exact decodeAcc_of_matches v ((extractLsb'_access w a (by omega)).trans h)

/-- The alias-0 address of an aligned address is aligned. -/
theorem atAliasZero_aligned {a : Word} (h : a.extractLsb' 0 2 = 0#2) :
    (atAliasZero a).extractLsb' 0 2 = 0#2 := by
  rw [atAliasZero, BitVec.extractLsb'_and, h, BitVec.zero_and]

/-- A read row of an aliased block fixes the alias to 0 (20_memory.md R107). -/
theorem readRow_alias : ∀ r ∈ accRows, r.mtch.getLsbD 32 = false → inAliasedBlock r.mtch = true →
    r.mask.extractLsb' 12 2 = BitVec.allOnes 2 ∧ r.mtch.extractLsb' 12 2 = 0#2 := by decide

/-- No read at an alias other than 0 matches a row. -/
theorem not_matches_of_offAlias {a : Word} (hoff : offAlias a = true) :
    accMatches (BitVec.ofBool false ++ a) = false := by
  refine eq_false_of_ne_true fun h => ?_
  rw [← offAlias_access false, Bool.and_eq_true] at hoff
  obtain ⟨hblock, halias⟩ := hoff
  obtain ⟨r, hr, hits⟩ := List.any_eq_true.mp h
  obtain ⟨hm, -⟩ := (Bool.and_eq_true _ _).mp hits
  have hw : r.mtch.getLsbD 32 = false := by
    rw [← eq_of_beq hm, BitVec.getLsbD_and, getLsbD_access, Bool.false_and]
  have hin : inAliasedBlock r.mtch = true := by
    rwa [inAliasedBlock, ← Memory.block_of_hits hr hits, ← inAliasedBlock]
  obtain ⟨hmask, hmtch⟩ := readRow_alias r hr hw hin
  refine of_decide_eq_true halias ?_
  rw [← hmtch, ← eq_of_beq hm, BitVec.extractLsb'_and, hmask, BitVec.and_allOnes]

/-- The refusal of a read that matches no row. -/
theorem refusalReason_read (a : Word) : refusalReason (BitVec.ofBool false ++ a) =
    if offAlias a && accMatches (BitVec.ofBool false ++ atAliasZero a) then .aliasRead
    else .unmapped := by
  simp only [refusalReason, accIsWrite, getLsbD_access, accAtAlias0_access, offAlias_access,
    Bool.not_false, Bool.true_and, Bool.false_and, Bool.false_eq_true, if_false]

/-- The refusal of a write that matches no row: where the address has a read row, at alias 0 if it lies off it,
the register is read-only. -/
theorem refusalReason_write (a : Word) : refusalReason (BitVec.ofBool true ++ a) =
    if offAlias a && accMatches (BitVec.ofBool true ++ atAliasZero a) then .aliasSideEffect
    else if accMatches (BitVec.ofBool false ++ a) ||
      (offAlias a && accMatches (BitVec.ofBool false ++ atAliasZero a)) then .writeRo
    else .unmapped := by
  simp only [refusalReason, accIsWrite, getLsbD_access, accAtAlias0_access, offAlias_access,
    Bool.not_true, Bool.true_and, Bool.false_and, Bool.false_eq_true, if_false]
  cases hoff : offAlias a
  · simp only [Bool.false_eq_true, if_false, accWithW_access, Bool.false_and, Bool.or_false]
  · simp only [if_true, accWithW_access, not_matches_of_offAlias hoff, Bool.true_and, Bool.false_or]

/-- An aligned access that does not decode is refused with its reason. -/
theorem decode_of_not_accessDecodes {w : Bool} {a v : Word} (halign : a.extractLsb' 0 2 = 0#2)
    (h : ¬ AccessDecodes w a v) :
    decode (.acc 4 (BitVec.ofBool w ++ a) v) = .error (refusalReason (BitVec.ofBool w ++ a)) :=
  decodeAcc_error ((extractLsb'_access w a (by omega)).trans halign)
    (eq_false_of_ne_true fun hm => h ((accessDecodes_iff w v halign).mpr hm))

/-- Settles O5: the statement's conditions are the decoder's tests, one for each clause of the refusal. -/
theorem refusalReasons : Obligations.RefusalReasons := by
  intro a v halign
  have hdec (w : Bool) (b : Word) (hb : b.extractLsb' 0 2 = 0#2) := accessDecodes_iff w v hb
  have hzero := atAliasZero_aligned halign
  refine ⟨fun hread => ?_, fun hwrite => ?_⟩
  · have h := decode_of_not_accessDecodes halign hread
    rw [refusalReason_read] at h
    rw [hdec _ _ hzero, ← offAlias_iff, ← Bool.and_eq_true]
    exact ⟨fun hc => h.trans (by rw [if_pos hc]), fun hc => h.trans (by rw [if_neg hc])⟩
  · have h := decode_of_not_accessDecodes halign hwrite
    rw [refusalReason_write] at h
    rw [hdec _ _ hzero, hdec _ _ hzero, hdec _ _ halign, ← offAlias_iff, ← Bool.and_eq_true,
      ← Bool.and_eq_true, ← Bool.or_eq_true]
    refine ⟨fun hc => h.trans (by rw [if_pos hc]), fun hc => ⟨fun hr => ?_, fun hr => ?_⟩⟩
    · exact h.trans (by rw [if_neg hc, if_pos hr])
    · exact h.trans (by rw [if_neg hc, if_neg hr])

end Sys2Proof.Proofs.Encoding
end

section
/-! S_XFER as a list of events and a state (43_i2c_fsm.md R429 to R435): what each phase emits and what it leaves,
and from them every outcome of a command. -/

namespace Sys2Proof.Proofs.Transfer

open Sys2Proof Sys2Proof.Machine Sys2Proof.Safety Sys2Proof.Laws

/-! ### Emitting events one after another (43_i2c_fsm.md R420) -/

/-- The state with events emitted by the controller, in order. -/
def emitAll (evs : List BusEvent) (s : State) : State :=
  { s with
    trace := s.trace ++ evs.map (fun e => ⟨e, wired s⟩)
    ctrl := { s.ctrl with segments := s.ctrl.segments ++ segmentsOf s evs } }

theorem emit_eq_emitAll (ev : BusEvent) (s : State) : emit ev s = emitAll [ev] s := by
  simp [emit, emitAll, segmentsOf]

theorem emitAll_nil (s : State) : emitAll [] s = s := by
  simp [emitAll, segmentsOf]

/-- Events emitted after others. -/
theorem emitAll_emitAll (es fs : List BusEvent) (s : State) :
    emitAll fs (emitAll es s) = emitAll (es ++ fs) s := by
  have hseg : segmentsOf s (es ++ fs) = segmentsOf s es ++ segmentsOf s fs := List.flatMap_append
  rw [emitAll, emitAll, emitAll, hseg, List.map_append, ← List.append_assoc, ← List.append_assoc]
  rfl

/-- One more event. -/
theorem emit_emitAll (ev : BusEvent) (es : List BusEvent) (s : State) :
    emit ev (emitAll es s) = emitAll (es ++ [ev]) s := by
  rw [emit_eq_emitAll, emitAll_emitAll]

/-! ### What the environment answers (43_i2c_fsm.md R420, R446) -/

/-- BUSENV's next answer is `a`, after which `l` is left of its script and `k` is the moment. -/
def Answers (s : State) (a : Answer) (l : List Answer) (k : Nat) : Prop :=
  (wired s = true ∧ s.script.answers = a :: l ∧ k = s.draws) ∨
  ((wired s = false ∨ s.script.answers = []) ∧
    a = Config.freeAnswer s.draws ∧ l = s.script.answers ∧ k = s.draws + 1)

/-- BUSENV's next byte is `d`, after which `l` is left of its script and `k` is the moment. -/
def Sends (s : State) (d : Byte) (l : List Byte) (k : Nat) : Prop :=
  (wired s = true ∧ s.script.bytes = d :: l ∧ k = s.draws) ∨
  ((wired s = false ∨ s.script.bytes = []) ∧
    d = Config.freeByte s.draws ∧ l = s.script.bytes ∧ k = s.draws + 1)

/-- The state after an answer. -/
def tookAnswer (l : List Answer) (k : Nat) (s : State) : State :=
  { s with script := { s.script with answers := l }, draws := k }

/-- The state after a byte. -/
def tookByte (l : List Byte) (k : Nat) (s : State) : State :=
  { s with script := { s.script with bytes := l }, draws := k }

theorem takeAnswer_of {s : State} {a : Answer} {l : List Answer} {k : Nat} (h : Answers s a l k) :
    takeAnswer s = (a, tookAnswer l k s) := by
  obtain ⟨hw, ha, rfl⟩ | ⟨hfree, rfl, rfl, rfl⟩ := h
  · simp only [takeAnswer, hw, ha, if_true, tookAnswer]
  · obtain ⟨hw, _, _, ha, -⟩ | ⟨-, h⟩ := takeAnswer_cases s
    · simp [hw, ha] at hfree
    · exact h

theorem takeByte_of {s : State} {d : Byte} {l : List Byte} {k : Nat} (h : Sends s d l k) :
    takeByte s = (d, tookByte l k s) := by
  obtain ⟨hw, hd, rfl⟩ | ⟨hfree, rfl, rfl, rfl⟩ := h
  · simp only [takeByte, hw, hd, if_true, tookByte]
  · obtain ⟨hw, _, _, hd, -⟩ | ⟨-, h⟩ := takeByte_cases s
    · simp [hw, hd] at hfree
    · exact h

/-- BUSENV always answers. -/
theorem exists_answers (s : State) : ∃ a l k, Answers s a l k := by
  obtain ⟨hw, a, rest, ha, -⟩ | ⟨hfree, -⟩ := takeAnswer_cases s
  · exact ⟨a, rest, s.draws, .inl ⟨hw, ha, rfl⟩⟩
  · exact ⟨_, _, _, .inr ⟨hfree, rfl, rfl, rfl⟩⟩

/-- BUSENV always sends a byte. -/
theorem exists_sends (s : State) : ∃ d l k, Sends s d l k := by
  obtain ⟨hw, d, rest, hd, -⟩ | ⟨hfree, -⟩ := takeByte_cases s
  · exact ⟨d, rest, s.draws, .inl ⟨hw, hd, rfl⟩⟩
  · exact ⟨_, _, _, .inr ⟨hfree, rfl, rfl, rfl⟩⟩

/-! ### The opening (43_i2c_fsm.md R429, R430, R432, R427) -/

/-- An address phase follows the opening: of a new transfer, of a restart, of a change of direction. -/
def opensAddress (c : Cmd) (s : State) : Bool :=
  !s.ctrl.owned || c.restart || decide (cmdDir c ≠ s.ctrl.dir)

/-- The answer in the pending ACK slot of a received byte. -/
def ackEvents (c : Cmd) (s : State) : List BusEvent :=
  if s.ctrl.rxAckPending then
    [if c.cmd && !c.restart && decide (s.ctrl.dir = .read) then .mack else .mnack]
  else []

/-- A restart, where restarts are enabled, or STOP then START. -/
def restartEvents (s : State) : List BusEvent :=
  if s.i2c.con.restartEn then [.restart] else [.stop, .start]

/-- What the opening emits. -/
def openEvents (c : Cmd) (s : State) : List BusEvent :=
  if s.ctrl.owned then ackEvents c s ++ (if opensAddress c s then restartEvents s else []) else [.start]

/-- What the opening leaves beside its events. -/
def opened (c : Cmd) (s : State) : State :=
  { s with ctrl := { s.ctrl with
      owned := true
      rxAckPending := s.ctrl.rxAckPending && !s.ctrl.owned
      raw := { s.ctrl.raw with
        startDet := opensAddress c s || s.ctrl.raw.startDet
        stopDet := (s.ctrl.owned && opensAddress c s && !s.i2c.con.restartEn) || s.ctrl.raw.stopDet } } }

theorem sendPendingAck_eq (c : Cmd) (s : State) : sendPendingAck c s =
    emitAll (ackEvents c s) { s with ctrl := { s.ctrl with rxAckPending := false } } := by
  unfold sendPendingAck ackEvents
  cases hp : s.ctrl.rxAckPending with
  | true => simp only [if_true, emit_eq_emitAll]; rfl
  | false =>
    have hs : { s with ctrl := { s.ctrl with rxAckPending := false } } = s := by rw [← hp]
    simp only [Bool.false_eq_true, if_false, emitAll_nil, hs]

theorem restartBus_eq (s : State) : restartBus s =
    emitAll (restartEvents s) { s with ctrl := { s.ctrl with raw := { s.ctrl.raw with
      startDet := true, stopDet := !s.i2c.con.restartEn || s.ctrl.raw.stopDet } } } := by
  unfold restartBus restartEvents
  cases s.i2c.con.restartEn
  · rw [if_neg Bool.false_ne_true, if_neg Bool.false_ne_true, emit_eq_emitAll .stop]
    exact congrArg setStartDet (emitAll_emitAll [.stop] [.start] (setStopDet s) ▸ emit_eq_emitAll .start _)
  · rw [if_pos rfl, if_pos rfl, emit_eq_emitAll]
    rfl

/-- The opening, whole. -/
theorem openPhase_eq (c : Cmd) (s : State) :
    openPhase c s = (opensAddress c s, emitAll (openEvents c s) (opened c s)) := by
  have hdir : (sendPendingAck c s).ctrl.dir = s.ctrl.dir := by rw [sendPendingAck_eq]; rfl
  have hopened : s.ctrl.owned = true → opened c s = { s with ctrl := { s.ctrl with
      rxAckPending := false
      raw := { s.ctrl.raw with
        startDet := opensAddress c s || s.ctrl.raw.startDet
        stopDet := (opensAddress c s && !s.i2c.con.restartEn) || s.ctrl.raw.stopDet } } } := fun hown => by
    simp only [opened, hown, Bool.not_true, Bool.and_false, Bool.true_and]
  obtain ⟨hown, h⟩ | ⟨hown, hc, h⟩ | ⟨hown, hc, h⟩ := openPhase_cases c s
  · have haddr : opensAddress c s = true := by rw [opensAddress, hown]; rfl
    rw [h, haddr, openEvents, hown, if_neg Bool.false_ne_true, emit_eq_emitAll, opened, haddr, hown,
      Bool.false_and, Bool.false_and, Bool.not_false, Bool.and_true]
    rfl
  · have haddr : opensAddress c s = true := by rw [opensAddress, hown, ← hdir]; exact hc
    rw [h, haddr, openEvents, hown, if_pos rfl, haddr, if_pos rfl, hopened hown, haddr, ← emitAll_emitAll,
      restartBus_eq, sendPendingAck_eq]
    rfl
  · have haddr : opensAddress c s = false := by rw [opensAddress, hown, ← hdir]; exact hc
    rw [h, haddr, openEvents, hown, if_pos rfl, haddr, if_neg Bool.false_ne_true, List.append_nil,
      hopened hown, haddr, sendPendingAck_eq]
    rfl

/-! ### The address and the data (43_i2c_fsm.md R430, R431, R433) -/

/-- What an address phase leaves beside its event. -/
def addressed (c : Cmd) (l : List Answer) (k : Nat) (s : State) : State :=
  tookAnswer l k { s with ctrl := { s.ctrl with dir := cmdDir c } }

/-- The address phase after other events. -/
theorem addressPhase_eq {c : Cmd} {s : State} {a : Answer} {l : List Answer} {k : Nat}
    (h : Answers s a l k) (es : List BusEvent) : addressPhase c (emitAll es s) =
      (a, emitAll (es ++ [.addr (addrByte s.i2c (cmdDir c)) a]) (addressed c l k s)) := by
  have ha : takeAnswer { emitAll es s with ctrl := { (emitAll es s).ctrl with dir := cmdDir c } } =
      (a, emitAll es (addressed c l k s)) :=
    takeAnswer_of (s := emitAll es { s with ctrl := { s.ctrl with dir := cmdDir c } }) h
  rw [addressPhase, ha]
  exact congrArg (Prod.mk a) (emit_emitAll _ _ _)

/-- What the end of a command that completes emits (R435). -/
def finishEvents (c : Cmd) (pending : Bool) : List BusEvent :=
  if c.stop then (if pending then [.mnack] else []) ++ [.stop] else []

/-- What the end of a command that completes leaves beside its events. -/
def finished (c : Cmd) (s : State) : State :=
  { s with ctrl := { s.ctrl with
      shift := none
      owned := s.ctrl.owned && !c.stop
      rxAckPending := s.ctrl.rxAckPending && !c.stop
      raw := { s.ctrl.raw with stopDet := c.stop || s.ctrl.raw.stopDet } } }

/-- The end of a command that completes, after other events. -/
theorem finishCmd_eq (c : Cmd) (es : List BusEvent) (s : State) : finishCmd c (emitAll es s) =
    emitAll (es ++ finishEvents c s.ctrl.rxAckPending) (finished c s) := by
  unfold finishCmd finishEvents finished
  cases c.stop with
  | false => simp; rfl
  | true =>
    have hpend : (emitAll es s).ctrl.rxAckPending = s.ctrl.rxAckPending := rfl
    cases hp : s.ctrl.rxAckPending
    · simp only [hpend, hp, if_true, Bool.false_eq_true, if_false, List.nil_append, emit_eq_emitAll,
        ← emitAll_emitAll es]
      simp only [Bool.not_true, Bool.and_false, Bool.true_or]
      rfl
    · simp only [hpend, hp, if_true, emit_eq_emitAll, ← emitAll_emitAll]
      simp only [Bool.not_true, Bool.and_false, Bool.true_or]
      rfl

/-- What an abort leaves beside its event (R434, 60_exceptions.md R606). -/
def aborted (src : AbortSource) (stop : Bool) (s : State) : State :=
  { s with
    i2c := { s.i2c with
      abrtSource := s.i2c.abrtSource ||| (1#17 <<< src.code)
      txFlushCnt := BitVec.ofNat 9 s.ctrl.txq.length }
    ctrl := { s.ctrl with
      txq := [], shift := none, owned := false, rxAckPending := false, flushHold := true
      raw := { s.ctrl.raw with txAbrt := true, stopDet := stop || s.ctrl.raw.stopDet } }
    wires := { s.wires with otherBusy := !stop || s.wires.otherBusy } }

/-- The end of a transfer by an abort, after other events. -/
theorem abortBus_eq (src : AbortSource) (stop : Bool) (es : List BusEvent) (s : State) :
    abortBus src stop (emitAll es s) =
      emitAll (es ++ (if stop then [.stop] else [])) (aborted src stop s) := by
  unfold abortBus
  cases stop with
  | true =>
    simp only [if_true, emit_eq_emitAll, ← emitAll_emitAll]
    rfl
  | false =>
    simp only [Bool.false_eq_true, if_false, List.append_nil]
    rfl

/-- What a received byte leaves: it enters RXQ or sets RX_OVER, and its ACK slot is pending. -/
def received (d : Byte) (s : State) : State :=
  { s with ctrl := { s.ctrl with
      rxq := if s.ctrl.rxq.length < 16 then s.ctrl.rxq ++ [d] else s.ctrl.rxq
      rxAckPending := true
      raw := { s.ctrl.raw with rxOver := s.ctrl.raw.rxOver || decide (16 ≤ s.ctrl.rxq.length) } } }

/-- What a write of a byte does with its answer. -/
def endWrite (c : Cmd) (a : Answer) (s : State) : State :=
  match a with
  | .ack => finishCmd c s
  | .nack => abortBus .txDataNoack true s
  | .lost => abortBus .arbLost false s

/-- The write of a byte after other events. -/
theorem writePhase_eq {c : Cmd} {s : State} {a : Answer} {l : List Answer} {k : Nat}
    (h : Answers s a l k) (es : List BusEvent) : writePhase c (emitAll es s) =
      endWrite c a (emitAll (es ++ [.tx c.dat a]) (tookAnswer l k s)) := by
  have ha : takeAnswer (emitAll es s) = (a, emitAll es (tookAnswer l k s)) := takeAnswer_of h
  rw [← emit_emitAll, writePhase, ha]
  cases a <;> rfl

/-- A byte received, with its ACK slot pending. -/
theorem received_eq (d : Byte) (s : State) :
    { receive d s with ctrl := { (receive d s).ctrl with rxAckPending := true } } = received d s := by
  obtain ⟨hroom, hr⟩ | ⟨hfull, hr⟩ := receive_cases d s
  · have hnot : decide (16 ≤ s.ctrl.rxq.length) = false := decide_eq_false (by omega)
    simp only [hr, received, hnot, if_pos hroom, Bool.or_false]
  · have hnot : ¬ s.ctrl.rxq.length < 16 := by omega
    simp only [hr, setRaw, received, hfull, if_neg hnot, decide_true, Bool.or_true]

/-- The receipt of a byte after other events. -/
theorem readPhase_eq {c : Cmd} {s : State} {d : Byte} {l : List Byte} {k : Nat} (h : Sends s d l k)
    (es : List BusEvent) : readPhase c (emitAll es s) =
      finishCmd c (emitAll (es ++ [.rx d]) (received d (tookByte l k s))) := by
  have hd : takeByte (emitAll es s) = (d, emitAll es (tookByte l k s)) := takeByte_of h
  rw [readPhase, hd, emit_emitAll]
  exact congrArg (finishCmd c) (received_eq d _)

/-! ### Outcomes -/

/-- What a data phase can do: its events, and what it leaves beside them. -/
inductive DataOutcome (c : Cmd) (s : State) : List BusEvent → State → Prop
  | sent {l k} (hcmd : c.cmd = false) (h : Answers s .ack l k) :
      DataOutcome c s (.tx c.dat .ack :: finishEvents c s.ctrl.rxAckPending) (finished c (tookAnswer l k s))
  | refused {l k} (hcmd : c.cmd = false) (h : Answers s .nack l k) :
      DataOutcome c s [.tx c.dat .nack, .stop] (aborted .txDataNoack true (tookAnswer l k s))
  | lost {l k} (hcmd : c.cmd = false) (h : Answers s .lost l k) :
      DataOutcome c s [.tx c.dat .lost] (aborted .arbLost false (tookAnswer l k s))
  | got {d l k} (hcmd : c.cmd = true) (h : Sends s d l k) :
      DataOutcome c s (.rx d :: finishEvents c true) (finished c (received d (tookByte l k s)))

/-- The address byte of a command. -/
def addrOf (c : Cmd) (s : State) : Byte := addrByte s.i2c (cmdDir c)

/-- What S_XFER can do: its events, and what it leaves beside them. -/
inductive XferOutcome (c : Cmd) (s : State) : List BusEvent → State → Prop
  | goesOn {es u} (hopen : opensAddress c s = false) (h : DataOutcome c (opened c s) es u) :
      XferOutcome c s (openEvents c s ++ es) u
  | addressed {l k es u} (hopen : opensAddress c s = true) (ha : Answers s .ack l k)
      (h : DataOutcome c (addressed c l k (opened c s)) es u) :
      XferOutcome c s (openEvents c s ++ .addr (addrOf c s) .ack :: es) u
  | refused {l k} (hopen : opensAddress c s = true) (ha : Answers s .nack l k) :
      XferOutcome c s (openEvents c s ++ [.addr (addrOf c s) .nack, .stop])
        (aborted .addrNoack true (addressed c l k (opened c s)))
  | lost {l k} (hopen : opensAddress c s = true) (ha : Answers s .lost l k) :
      XferOutcome c s (openEvents c s ++ [.addr (addrOf c s) .lost])
        (aborted .arbLost false (addressed c l k (opened c s)))

/-- A data phase has an outcome. -/
theorem exists_dataOutcome (c : Cmd) (s : State) : ∃ es u, DataOutcome c s es u := by
  cases hcmd : c.cmd with
  | false =>
    obtain ⟨a, l, k, h⟩ := exists_answers s
    cases a
    · exact ⟨_, _, .sent hcmd h⟩
    · exact ⟨_, _, .refused hcmd h⟩
    · exact ⟨_, _, .lost hcmd h⟩
  | true =>
    obtain ⟨d, l, k, h⟩ := exists_sends s
    exact ⟨_, _, .got hcmd h⟩

/-- A data phase after other events does what its outcome says. -/
theorem dataPhase_eq {c : Cmd} {s u : State} {fs : List BusEvent} (h : DataOutcome c s fs u)
    (es : List BusEvent) : dataPhase c (emitAll es s) = emitAll (es ++ fs) u := by
  cases h with
  | sent hcmd h =>
    rw [dataPhase, hcmd, if_neg Bool.false_ne_true, writePhase_eq h]
    exact (finishCmd_eq _ _ _).trans (congrArg (emitAll · _) (List.append_assoc _ _ _))
  | refused hcmd h =>
    rw [dataPhase, hcmd, if_neg Bool.false_ne_true, writePhase_eq h]
    exact (abortBus_eq .txDataNoack true _ _).trans (congrArg (emitAll · _) (List.append_assoc _ _ _))
  | lost hcmd h =>
    rw [dataPhase, hcmd, if_neg Bool.false_ne_true, writePhase_eq h]
    exact (abortBus_eq .arbLost false _ _).trans (congrArg (emitAll · _) (List.append_assoc _ _ _))
  | got hcmd h =>
    rw [dataPhase, hcmd, if_pos rfl, readPhase_eq h]
    exact (finishCmd_eq _ _ _).trans (congrArg (emitAll · _) (List.append_assoc _ _ _))

/-- S_XFER has an outcome. -/
theorem exists_xferOutcome (c : Cmd) (s : State) : ∃ es u, XferOutcome c s es u := by
  cases hopen : opensAddress c s with
  | false =>
    obtain ⟨es, u, h⟩ := exists_dataOutcome c (opened c s)
    exact ⟨_, _, .goesOn hopen h⟩
  | true =>
    obtain ⟨a, l, k, ha⟩ := exists_answers s
    cases a
    · obtain ⟨es, u, h⟩ := exists_dataOutcome c (addressed c l k (opened c s))
      exact ⟨_, _, .addressed hopen ha h⟩
    · exact ⟨_, _, .refused hopen ha⟩
    · exact ⟨_, _, .lost hopen ha⟩

/-- S_XFER does what its outcome says. -/
theorem xfer_eq {c : Cmd} {s u : State} {es : List BusEvent} (h : XferOutcome c s es u) :
    xfer c s = emitAll es u := by
  have addr {a l k} (ha : Answers s a l k) := addressPhase_eq (c := c) (s := opened c s) ha (openEvents c s)
  cases h with
  | goesOn hopen h =>
    rw [xfer, openPhase_eq, hopen]
    exact dataPhase_eq h _
  | addressed hopen ha h =>
    rw [xfer, openPhase_eq, hopen]
    simp only [if_true, addr ha]
    exact (dataPhase_eq h _).trans (congrArg (emitAll · _) (List.append_assoc _ _ _))
  | refused hopen ha =>
    rw [xfer, openPhase_eq, hopen]
    simp only [if_true, addr ha]
    exact (abortBus_eq .addrNoack true _ _).trans (congrArg (emitAll · _) (List.append_assoc _ _ _))
  | lost hopen ha =>
    rw [xfer, openPhase_eq, hopen]
    simp only [if_true, addr ha]
    exact (abortBus_eq .arbLost false _ _).trans (congrArg (emitAll · _) (List.append_assoc _ _ _))

end Sys2Proof.Proofs.Transfer
end

section
/-! Commands on the bus (43_i2c_fsm.md R429 to R435, R446): what every outcome of S_XFER leaves, and the outcome that
the environment's script gives on a free and on a held bus. -/

namespace Sys2Proof.Proofs.Commands

open Sys2Proof Sys2Proof.Machine Sys2Proof.Safety Sys2Proof.Laws Sys2Proof.Proofs.Transfer

/-! ### What every outcome leaves -/

/-- What no phase of S_XFER changes beside its events. -/
structure Kept (s u : State) : Prop where
  io : u.io = s.io
  pads : u.pads = s.pads
  trace : u.trace = s.trace
  segments : u.ctrl.segments = s.ctrl.segments
  hcnt : hcntEff u.i2c = hcntEff s.i2c
  lcnt : lcntEff u.i2c = lcntEff s.i2c

theorem Kept.refl (s : State) : Kept s s := ⟨rfl, rfl, rfl, rfl, rfl, rfl⟩

/-- What a data phase leaves. -/
theorem kept_of_dataOutcome {c : Cmd} {s u : State} {es : List BusEvent} (h : DataOutcome c s es u) :
    Kept s u := by
  cases h <;> exact ⟨rfl, rfl, rfl, rfl, rfl, rfl⟩

/-- What S_XFER leaves. -/
theorem kept_of_xferOutcome {c : Cmd} {s u : State} {es : List BusEvent} (h : XferOutcome c s es u) :
    Kept s u := by
  cases h with
  | goesOn _ h | addressed _ _ h =>
    obtain ⟨hio, hpads, htrace, hseg, hh, hl⟩ := kept_of_dataOutcome h
    exact ⟨hio, hpads, htrace, hseg, hh, hl⟩
  | refused | lost => exact ⟨rfl, rfl, rfl, rfl, rfl, rfl⟩

/-- Events emitted after what is kept, as entries of the trace and as segments. -/
theorem emitAll_of_kept {s u : State} (h : Kept s u) (es : List BusEvent) : emitAll es u = { u with
    trace := s.trace ++ es.map (fun e => ⟨e, wired s⟩)
    ctrl := { u.ctrl with segments := s.ctrl.segments ++ segmentsOf s es } } := by
  rw [emitAll, segmentsOf, h.trace, h.segments, h.hcnt, h.lcnt, wired_congr h.io h.pads, ← segmentsOf]

/-- A command that may be performed takes an outcome of S_XFER. -/
theorem exec_of_outcome {c : Cmd} {s u : State} {es : List BusEvent} (hen : xferEnabled c s = true)
    (h : XferOutcome c s es u) : exec (instrOfCmd c) s = .next { u with
      trace := s.trace ++ es.map (fun e => ⟨e, wired s⟩)
      ctrl := { u.ctrl with segments := s.ctrl.segments ++ segmentsOf s es } } := by
  rw [exec_instrOfCmd, performCmd, if_pos hen, xfer_eq h, emitAll_of_kept (kept_of_xferOutcome h)]

/-! ### Off the bus (43_i2c_fsm.md R446) -/

/-- While the pins do not connect the bus a data phase emits an event and takes nothing from the script. -/
theorem script_of_dataOutcome {c : Cmd} {s u : State} {es : List BusEvent} (h : DataOutcome c s es u)
    (hw : wired s = false) : u.script = s.script ∧ es ≠ [] := by
  have noAnswer {a l k} (ha : Answers s a l k) : l = s.script.answers := by
    obtain ⟨hon, -⟩ | ⟨-, -, hl, -⟩ := ha
    · cases hw.symm.trans hon
    · exact hl
  have noByte {d l k} (hd : Sends s d l k) : l = s.script.bytes := by
    obtain ⟨hon, -⟩ | ⟨-, -, hl, -⟩ := hd
    · cases hw.symm.trans hon
    · exact hl
  cases h with
  | sent _ ha | refused _ ha | lost _ ha => cases noAnswer ha; exact ⟨rfl, List.cons_ne_nil _ _⟩
  | got _ hd => cases noByte hd; exact ⟨rfl, List.cons_ne_nil _ _⟩

/-- While the pins do not connect the bus S_XFER emits an event and takes nothing from the script. -/
theorem script_of_xferOutcome {c : Cmd} {s u : State} {es : List BusEvent} (h : XferOutcome c s es u)
    (hw : wired s = false) : u.script = s.script ∧ es ≠ [] := by
  have noAnswer {a l k} (ha : Answers s a l k) : l = s.script.answers := by
    obtain ⟨hon, -⟩ | ⟨-, -, hl, -⟩ := ha
    · cases hw.symm.trans hon
    · exact hl
  cases h with
  | goesOn _ h =>
    obtain ⟨hscript, hne⟩ := script_of_dataOutcome h hw
    exact ⟨hscript, List.append_ne_nil_of_right_ne_nil _ hne⟩
  | addressed _ ha h =>
    cases noAnswer ha
    obtain ⟨hscript, -⟩ := script_of_dataOutcome h hw
    exact ⟨hscript, List.append_ne_nil_of_right_ne_nil _ (List.cons_ne_nil _ _)⟩
  | refused _ ha | lost _ ha =>
    cases noAnswer ha
    exact ⟨rfl, List.append_ne_nil_of_right_ne_nil _ (List.cons_ne_nil _ _)⟩

/-- Settles O54: no outcome takes anything from the script, and each emits an event. -/
theorem unwiredCommandIgnoresScript : Obligations.UnwiredCommandIgnoresScript := by
  intro c s hw hen
  obtain ⟨es, u, h⟩ := exists_xferOutcome c s
  obtain ⟨hscript, hne⟩ := script_of_xferOutcome h hw
  refine ⟨_, es.map (fun e => ⟨e, wired s⟩), exec_of_outcome hen h, hscript, ?_, rfl, ?_⟩
  · rwa [Ne, List.map_eq_nil_iff]
  · intro e he
    obtain ⟨-, -, rfl⟩ := List.mem_map.mp he
    exact hw

/-! ### On the bus -/

/-- A command in hand on a bus that is held or free may be performed. -/
theorem xferEnabled_of_inHand {c : Cmd} {s : State} (hin : CommandInHand c s)
    (hbus : s.ctrl.owned = true ∨ BusFree s) : xferEnabled c s = true := by
  refine (xferEnabled_iff c s).mpr ⟨hin.enabled, hin.released, hin.noAbort, hin.inHand, hin.sclFree, ?_,
    hin.roomOrLoss⟩
  exact hbus.imp_right fun h => ⟨h.noOther, h.sdaFree⟩

/-- A command on the bus: the state its outcome leaves, with the events on the trace and some segments. -/
theorem exec_on_bus {c : Cmd} {s u : State} {es : List BusEvent} {t : List Segment → State}
    (hin : CommandInHand c s) (hbus : s.ctrl.owned = true ∨ BusFree s) (h : XferOutcome c s es u)
    (ht : ∀ g, { u with trace := s.trace ++ onBus es, ctrl := { u.ctrl with segments := g } } = t g) :
    ∃ seg, exec (instrOfCmd c) s = .next (t seg) := by
  refine ⟨s.ctrl.segments ++ segmentsOf s es, ?_⟩
  rw [exec_of_outcome (xferEnabled_of_inHand hin hbus) h, hin.connected, ← ht]
  rfl

/-- The address byte of a command. -/
theorem addrOf_eq (c : Cmd) (s : State) :
    addrOf c s = addressByte s (if c.cmd then 1#1 else 0#1) := by
  have haddr : s.i2c.tar.addr.setWidth 7 = s.i2c.tar.addr.extractLsb' 0 7 := by
    ext i hi
    simp
  unfold addrOf addrByte addressByte cmdDir
  rw [haddr]
  cases c.cmd <;> rfl

/-- On a free bus the opening is START. -/
theorem opening_of_free {c : Cmd} {s : State} (h : BusFree s) :
    opensAddress c s = true ∧ openEvents c s = [.start] ∧ opened c s = { s with ctrl := { s.ctrl with
      owned := true, raw := { s.ctrl.raw with startDet := true } } } := by
  have hopen : opensAddress c s = true := by rw [opensAddress, h.notOwned]; rfl
  exact ⟨hopen, by simp [openEvents, h.notOwned], by simp [opened, hopen, h.notOwned, h.noPending]⟩

/-- On a held bus, with RESTART or against its direction, the opening is a pending ACK slot as MNACK and a
restart. -/
theorem opening_of_restart {c : Cmd} {s : State} (hown : s.ctrl.owned = true)
    (h : c.restart = true ∨ s.ctrl.dir ≠ cmdDir c) :
    opensAddress c s = true ∧
    openEvents c s = (if s.ctrl.rxAckPending then [.mnack] else []) ++
      (if s.i2c.con.restartEn then [.restart] else [.stop, .start]) ∧
    opened c s = { s with ctrl := { s.ctrl with
      rxAckPending := false
      raw := { s.ctrl.raw with
        startDet := true, stopDet := !s.i2c.con.restartEn || s.ctrl.raw.stopDet } } } := by
  have hopen : opensAddress c s = true := by
    rw [opensAddress, Bool.or_eq_true, Bool.or_eq_true, decide_eq_true_eq]
    exact h.elim (fun hr => .inl (.inr hr)) (fun hd => .inr hd.symm)
  have hmnack : (c.cmd && !c.restart && decide (s.ctrl.dir = .read)) = false := by
    obtain hr | hd := h
    · simp [hr]
    · cases hc : c.cmd <;> simp_all [cmdDir]
  refine ⟨hopen, ?_, ?_⟩
  · rw [openEvents, hown, if_pos rfl, hopen, if_pos rfl, ackEvents, hmnack, restartEvents]
    rfl
  · simp only [opened, hopen, hown, Bool.not_true, Bool.and_false, Bool.true_or, Bool.true_and]

/-- On a bus held in its direction a command with no RESTART opens with the pending ACK slot as MACK. -/
theorem opening_of_same_dir {c : Cmd} {s : State} (hown : s.ctrl.owned = true)
    (hr : c.restart = false) (hd : s.ctrl.dir = cmdDir c) :
    opensAddress c s = false ∧
    openEvents c s = (if s.ctrl.rxAckPending then [if c.cmd then .mack else .mnack] else []) ∧
    opened c s = { s with ctrl := { s.ctrl with rxAckPending := false } } := by
  have hopen : opensAddress c s = false := by simp [opensAddress, hown, hr, hd]
  have hmack : (c.cmd && !c.restart && decide (s.ctrl.dir = .read)) = c.cmd := by
    cases hc : c.cmd <;> simp [hr, hd, cmdDir, hc]
  refine ⟨hopen, ?_, ?_⟩
  · rw [openEvents, hown, if_pos rfl, hopen, ackEvents, hmack]
    exact List.append_nil _
  · simp only [opened, hopen, hown, Bool.not_true, Bool.and_false, Bool.false_or, Bool.false_and]

/-- The script of a connected bus answers. -/
theorem answers_of_script {s : State} {a : Answer} {l : List Answer} (hw : wired s = true)
    (h : s.script.answers = a :: l) : Answers s a l s.draws := .inl ⟨hw, h, rfl⟩

/-- The script of a connected bus sends. -/
theorem sends_of_script {s : State} {d : Byte} {l : List Byte} (hw : wired s = true)
    (h : s.script.bytes = d :: l) : Sends s d l s.draws := .inl ⟨hw, h, rfl⟩

/-- Settles O49: START, the address phase, and the byte sent. -/
theorem writeOnFreeBus : Obligations.WriteOnFreeBus := by
  intro c s rest hin hfree hcmd hans
  obtain ⟨hopen, hevs, hopened⟩ := opening_of_free (c := c) hfree
  refine exec_on_bus hin (.inr hfree) (.addressed hopen (answers_of_script hin.connected hans)
    (.sent hcmd (answers_of_script hin.connected rfl))) fun g => ?_
  simp [hevs, hopened, addrOf_eq, finishEvents, finished, tookAnswer, addressed, cmdDir, hcmd,
    hfree.noPending]

/-- Settles O50: START, the address phase, and the byte received. -/
theorem readOnFreeBus : Obligations.ReadOnFreeBus := by
  intro c s d rest bytes hin hfree hcmd hans hbytes
  obtain ⟨hopen, hevs, hopened⟩ := opening_of_free (c := c) hfree
  refine exec_on_bus hin (.inr hfree) (.addressed hopen (answers_of_script hin.connected hans)
    (.got hcmd (sends_of_script hin.connected hbytes))) fun g => ?_
  simp [hevs, hopened, addrOf_eq, finishEvents, finished, received, tookByte, tookAnswer, addressed, cmdDir,
    hcmd]

/-- Settles O51: no address phase; a byte received before is acknowledged first. -/
theorem commandGoesOnHeldBus : Obligations.CommandGoesOnHeldBus := by
  intro c s hin hown hr
  refine ⟨fun rest hcmd hdir hpend hans => ?_, fun d bytes hcmd hdir hpend hbytes => ?_⟩
  · obtain ⟨hopen, hevs, hopened⟩ := opening_of_same_dir hown hr (by rw [hdir, cmdDir, hcmd]; rfl)
    refine exec_on_bus hin (.inl hown) (.goesOn hopen
      (.sent hcmd (answers_of_script hin.connected hans))) fun g => ?_
    simp [hevs, hopened, finishEvents, finished, tookAnswer, hpend, hown]
  · obtain ⟨hopen, hevs, hopened⟩ := opening_of_same_dir hown hr (by rw [hdir, cmdDir, hcmd]; rfl)
    refine exec_on_bus hin (.inl hown) (.goesOn hopen
      (.got hcmd (sends_of_script hin.connected hbytes))) fun g => ?_
    simp [hevs, hopened, finishEvents, finished, received, tookByte, hpend, hown, hcmd]

/-- Settles O52: a pending ACK slot and a restart, the address phase, and the byte sent or received. -/
theorem commandRestartsHeldBus : Obligations.CommandRestartsHeldBus := by
  intro c s rest hin hown opening
  refine ⟨fun hcmd hr hans => ?_, fun d bytes hcmd hr hans hbytes => ?_⟩
  · obtain ⟨hopen, hevs, hopened⟩ := opening_of_restart (c := c) hown
      (hr.imp_right fun hd => by rw [hd, cmdDir, hcmd]; decide)
    refine exec_on_bus hin (.inl hown) (.addressed hopen (answers_of_script hin.connected hans)
      (.sent hcmd (answers_of_script hin.connected rfl))) fun g => ?_
    simp [hevs, hopened, addrOf_eq, finishEvents, finished, tookAnswer, addressed, cmdDir, hcmd, opening,
      hown, Bool.or_assoc]
  · obtain ⟨hopen, hevs, hopened⟩ := opening_of_restart (c := c) hown
      (hr.imp_right fun hd => by rw [hd, cmdDir, hcmd]; decide)
    refine exec_on_bus hin (.inl hown) (.addressed hopen (answers_of_script hin.connected hans)
      (.got hcmd (sends_of_script hin.connected hbytes))) fun g => ?_
    simp [hevs, hopened, addrOf_eq, finishEvents, finished, received, tookByte, tookAnswer, addressed, cmdDir,
      hcmd, opening, hown, Bool.or_assoc]

/-! ### Aborts (43_i2c_fsm.md R434, 60_exceptions.md R606) -/

/-- The bit of an abort's cause. -/
theorem twoPow_code (src : AbortSource) : (1#17 <<< src.code) = BitVec.twoPow 17 src.code := by
  cases src <;> rfl

/-- The opening emits a START or RESTART exactly where an address phase follows. -/
theorem any_start_openEvents (c : Cmd) (s : State) :
    (openEvents c s).any (fun e => e == .start || e == .restart) = opensAddress c s := by
  have hack : (ackEvents c s).any (fun e => e == .start || e == .restart) = false := by
    unfold ackEvents
    split
    · split <;> rfl
    · rfl
  have hrestart : (restartEvents s).any (fun e => e == .start || e == .restart) = true := by
    unfold restartEvents
    split <;> rfl
  unfold openEvents
  cases hown : s.ctrl.owned
  · simp [opensAddress, hown]
  · cases hopen : opensAddress c s <;> simp [hack, hrestart]

/-- The opening emits a STOP exactly where it restarts a held bus with restarts disabled. -/
theorem any_stop_openEvents (c : Cmd) (s : State) : (openEvents c s).any (fun e => e == .stop) =
    (s.ctrl.owned && opensAddress c s && !s.i2c.con.restartEn) := by
  have hack : (ackEvents c s).any (fun e => e == .stop) = false := by
    unfold ackEvents
    split
    · split <;> rfl
    · rfl
  have hrestart : (restartEvents s).any (fun e => e == .stop) = !s.i2c.con.restartEn := by
    unfold restartEvents
    cases s.i2c.con.restartEn <;> rfl
  unfold openEvents
  cases s.ctrl.owned
  · rfl
  · cases opensAddress c s <;> simp [hack, hrestart]

/-- The state that an abort leaves after an opening and more events, none of them a START or RESTART, and a STOP
among them exactly where the controller ends the transfer. -/
theorem aborted_eq_afterAbort (src : AbortSource) (stop : Bool) (c : Cmd) (s : State) (l : List Answer)
    (es : List BusEvent) (g : List Segment)
    (hstart : es.any (fun e => e == .start || e == .restart) = false)
    (hstop : es.any (fun e => e == .stop) = stop) :
    let u := aborted src stop (addressed c l s.draws (opened c s))
    { u with trace := s.trace ++ onBus (openEvents c s ++ es), ctrl := { u.ctrl with segments := g } } =
      afterAbort src.code (openEvents c s ++ es) stop (cmdDir c) l g s := by
  simp only [afterAbort, List.any_append, any_start_openEvents, any_stop_openEvents, hstart, hstop,
    Bool.or_false, ← twoPow_code]
  simp only [aborted, addressed, tookAnswer, opened, Bool.or_left_comm, Bool.or_assoc]

/-- The same state where a byte sent on a bus held in the write direction, with no address phase, is aborted. -/
theorem aborted_eq_afterAbort_of_write (src : AbortSource) (stop : Bool) (s : State) (l : List Answer)
    (es : List BusEvent) (g : List Segment) (hdir : s.ctrl.dir = .write)
    (hstart : es.any (fun e => e == .start || e == .restart) = false)
    (hstop : es.any (fun e => e == .stop) = stop) :
    let u := aborted src stop (tookAnswer l s.draws { s with ctrl := { s.ctrl with rxAckPending := false } })
    { u with trace := s.trace ++ onBus es, ctrl := { u.ctrl with segments := g } } =
      afterAbort src.code es stop .write l g s := by
  simp only [afterAbort, hstart, hstop, Bool.false_or, ← twoPow_code]
  simp only [aborted, tookAnswer, hdir]

/-- Settles O53: on either bus the address or the byte is aborted after its opening, and the byte of a write that
goes on with none. -/
theorem abortsOnFreeBus : Obligations.AbortsOnFreeBus := by
  intro c s rest hin d a aborts addressed
  have after {opening : List BusEvent} (hbus : s.ctrl.owned = true ∨ BusFree s)
      (hopen : opensAddress c s = true) (hevs : openEvents c s = opening) : addressed opening := by
    subst hevs
    refine ⟨fun h => ?_, fun h => ?_, fun hcmd h => ?_, fun hcmd h => ?_⟩
    · refine exec_on_bus hin hbus (.refused hopen (answers_of_script hin.connected h)) fun g => ?_
      rw [addrOf_eq]
      exact aborted_eq_afterAbort .addrNoack true c s rest _ g rfl rfl
    · refine exec_on_bus hin hbus (.lost hopen (answers_of_script hin.connected h)) fun g => ?_
      rw [addrOf_eq]
      exact aborted_eq_afterAbort .arbLost false c s rest _ g rfl rfl
    · refine exec_on_bus hin hbus (.addressed hopen (answers_of_script hin.connected h)
        (.refused hcmd (answers_of_script hin.connected rfl))) fun g => ?_
      rw [addrOf_eq]
      exact aborted_eq_afterAbort .txDataNoack true c s rest _ g rfl rfl
    · refine exec_on_bus hin hbus (.addressed hopen (answers_of_script hin.connected h)
        (.lost hcmd (answers_of_script hin.connected rfl))) fun g => ?_
      rw [addrOf_eq]
      exact aborted_eq_afterAbort .arbLost false c s rest _ g rfl rfl
  refine ⟨fun hfree => ?_, fun hown hr => ?_, fun hown hr hcmd hdir hpend => ?_⟩
  · obtain ⟨hopen, hevs, -⟩ := opening_of_free (c := c) hfree
    exact after (.inr hfree) hopen hevs
  · obtain ⟨hopen, hevs, -⟩ := opening_of_restart hown hr
    exact after (.inl hown) hopen hevs
  · obtain ⟨hopen, hevs, hopened⟩ := opening_of_same_dir hown hr (by rw [hdir, cmdDir, hcmd]; rfl)
    rw [hpend] at hevs
    have hd : d = .write := by simp only [d, hcmd, Bool.false_eq_true, if_false]
    refine ⟨fun h => ?_, fun h => ?_⟩
    · refine exec_on_bus hin (.inl hown) (.goesOn hopen
        (.refused hcmd (answers_of_script hin.connected h))) fun g => ?_
      rw [hevs, hopened, hd]
      exact aborted_eq_afterAbort_of_write .txDataNoack true s rest _ g hdir rfl rfl
    · refine exec_on_bus hin (.inl hown) (.goesOn hopen
        (.lost hcmd (answers_of_script hin.connected h))) fun g => ?_
      rw [hevs, hopened, hd]
      exact aborted_eq_afterAbort_of_write .arbLost false s rest _ g hdir rfl rfl

end Sys2Proof.Proofs.Commands
end

section
/-! Turns that run no instruction, and what an instruction's turn ends with: the steps of CTRL, BUSENV, RSTAGENT and
the HOST (43_i2c_fsm.md R422, R440, 40_pin_mux.md R205, 30_encoding.md R190). -/

namespace Sys2Proof.Proofs.Turns

open Sys2Proof Sys2Proof.Machine Sys2Proof.Safety Sys2Proof.Laws

/-! ### The step, by what the turn fetches -/

/-- A turn that fetches nothing is the agent's own. -/
theorem step_of_fetch_none {s : State} {t : Turn} (hturn : nextTurn s = t)
    (h : fetch t (beginTurn s) = none) : step s = .next (localStep t (beginTurn s)) := by
  simp only [step, hturn, h]

/-- A turn that fetches a code which decodes runs its instruction. -/
theorem step_of_decode {s : State} {c : Code} {i : Instr} (hc : fetch (nextTurn s) (beginTurn s) = some c)
    (hd : decode c = .ok i) : step s =
      match exec i (beginTurn s) with
      | .next t => .next (finish (nextTurn s) t)
      | .fault f => .fault f
      | .refused r => .refused r := by
  simp only [step, hc, hd] <;> rfl

/-- A turn that fetches a code which does not decode refuses it. -/
theorem step_of_decode_error {s : State} {c : Code} {r : Reason}
    (hc : fetch (nextTurn s) (beginTurn s) = some c) (hd : decode c = .error r) :
    step s = .next (finish (nextTurn s) (refuse r (beginTurn s))) := by
  simp only [step, hc, hd]

/-! ### CTRL (43_i2c_fsm.md R422, R429) -/

/-- Beginning a turn leaves the guard of S_XFER. -/
theorem xferReady_beginTurn (s : State) : xferReady (beginTurn s) = xferReady s := by
  have hen (c : Cmd) : xferEnabled c (beginTurn s) = xferEnabled c s := by
    rw [Bool.eq_iff_iff, xferEnabled_iff, xferEnabled_iff, beginTurn_ctrl, beginTurn_resets, beginTurn_i2c,
      beginTurn_wires]
  unfold xferReady
  rw [beginTurn_ctrl]
  cases s.ctrl.shift with
  | none => rfl
  | some c => exact hen c

/-- Settles O47: the guards exclude each other by the hand and by the request. -/
theorem atMostOneControllerStep : Obligations.AtMostOneControllerStep := by
  intro s
  refine ⟨fun ⟨hp, hx⟩ => ?_, fun ⟨hp, ha⟩ => ?_, fun ⟨hx, ha⟩ => ?_, fun hturn hp hx ha => ?_⟩
  · cases hx.symm.trans (I2cFsm.xferReady_eq_false_of_popEnabled hp)
  · cases ha.symm.trans (I2cFsm.abortEnabled_eq_false_of_popEnabled hp)
  · cases hx.symm.trans (I2cFsm.xferReady_eq_false_of_abortEnabled ha)
  · rw [I2cFsm.step_ctrl_local hturn (by rw [xferReady_beginTurn, hx]), ctrlLocal,
      I2cFsm.abortEnabled_beginTurn, ha, I2cFsm.popEnabled_beginTurn, hp]
    rfl

/-- Settles O48: each of the conditions contradicts a clause of the guard. -/
theorem commandsWait : Obligations.CommandsWait := by
  intro c s hwait
  have hoff : xferEnabled c s = false := by
    refine eq_false_of_ne_true fun hen => ?_
    obtain ⟨hon, hrst, hab, hshift, hscl, hbus, hroom⟩ := (xferEnabled_iff c s).mp hen
    obtain h | h | h | h | h | ⟨hown, h⟩ | h := hwait
    · cases hon.symm.trans h
    · cases hrst.symm.trans h
    · cases hab.symm.trans h
    · exact h hshift
    · cases hscl.symm.trans h
    · obtain hown' | ⟨hother, hsda⟩ := hbus
      · cases hown.symm.trans hown'
      · obtain h | h := h
        · cases hother.symm.trans h
        · cases hsda.symm.trans h
    · exact hroom h
  rw [exec_instrOfCmd, performCmd, hoff, if_neg Bool.false_ne_true]

/-! ### RSTAGENT (40_pin_mux.md R205) -/

/-- A turn of RSTAGENT. -/
theorem step_rst {s : State} {i : Fin 25} (hturn : nextTurn s = .rst i) :
    step s = .next (if releaseEnabled i s then settle (release i (beginTurn s)) else beginTurn s) := by
  rw [step_of_fetch_none hturn rfl, localStep, rstLocal, releaseEnabled, beginTurn_resets, ← releaseEnabled]

/-- The bits after one is set. -/
theorem getLsbD_or_bit (d : BitVec 25) (i : Fin 25) (k : Nat) :
    (d ||| (1#25 <<< i.val)).getLsbD k = (d.getLsbD k || k == i.val) := by
  have hbit : (1#25 <<< i.val).getLsbD k = (k == i.val) := by
    rw [← BitVec.twoPow_eq, BitVec.getLsbD_twoPow, decide_eq_true i.isLt, Bool.true_and, Bool.eq_iff_iff,
      decide_eq_true_eq, beq_iff_eq, eq_comm]
  rw [BitVec.getLsbD_or, hbit]

/-- Settles O36: the guard of the release step, and its effect. -/
theorem releaseStep : Obligations.ReleaseStep := by
  intro s i hturn
  refine ⟨fun hr hd => ?_, fun h => ?_⟩
  · have hen : releaseEnabled i s = true := by
      rw [releaseEnabled, Bool.and_eq_true, Bool.not_eq_true', Bool.not_eq_true']
      exact ⟨hr, hd⟩
    refine ⟨s.resets.done ||| (1#25 <<< i.val), fun k _ => getLsbD_or_bit _ i k, ?_⟩
    rw [step_rst hturn, hen, if_pos rfl, release, beginTurn_resets]
  · have hoff : releaseEnabled i s = false := by
      rw [releaseEnabled, Bool.and_eq_false_iff, Bool.not_eq_false', Bool.not_eq_false']
      exact h
    rw [step_rst hturn, hoff, if_neg Bool.false_ne_true]

/-! ### BUSENV (43_i2c_fsm.md R440) -/

/-- A turn of BUSENV. -/
theorem step_env {s : State} {e : EnvStep} (hturn : nextTurn s = .env e) :
    step s = .next (if envEnabled e s then settle (envEffect e (beginTurn s)) else beginTurn s) := by
  have hen : envEnabled e (beginTurn s) = envEnabled e s := by
    unfold envEnabled
    rw [beginTurn_ctrl, beginTurn_wires]
  rw [step_of_fetch_none hturn rfl, localStep, envLocal, hen]

/-- The effect of E_START. -/
theorem envEffect_eStart (s : State) : envEffect .eStart s = { s with
    wires := { s.wires with otherBusy := true }
    trace := s.trace ++ [⟨.envStart, wired s⟩]
    ctrl := { s.ctrl with raw := { s.ctrl.raw with startDet := s.ctrl.icEn || s.ctrl.raw.startDet } } } := by
  cases hen : s.ctrl.icEn with
  | false => exact (if_neg (by simp [hen])).trans (by simp only [Bool.false_or]; rfl)
  | true => exact (if_pos (by simp [hen])).trans (by simp only [Bool.true_or]; rfl)

/-- The effect of E_STOP. -/
theorem envEffect_eStop (s : State) : envEffect .eStop s = { s with
    wires := { s.wires with otherBusy := false }
    trace := s.trace ++ [⟨.envStop, wired s⟩]
    ctrl := { s.ctrl with raw := { s.ctrl.raw with stopDet := s.ctrl.icEn || s.ctrl.raw.stopDet } } } := by
  cases hen : s.ctrl.icEn with
  | false => exact (if_neg (by simp [hen])).trans (by simp only [Bool.false_or]; rfl)
  | true => exact (if_pos (by simp [hen])).trans (by simp only [Bool.true_or]; rfl)

/-- Settles O56: each guard as its clauses, and each effect on the state whose turn has begun. -/
theorem environmentSteps : Obligations.EnvironmentSteps := by
  intro s b
  refine ⟨fun h => ?_, fun h => ?_, fun h => ?_, fun h => ?_, fun h => ?_, fun h => ?_⟩
  · have hen : envEnabled .eStart s = true ↔ s.ctrl.owned = false ∧ s.wires.otherBusy = false ∧
        s.wires.envSdaLow = false ∧ s.wires.envSclLow = false := by
      simp only [envEnabled, Bool.and_eq_true, Bool.not_eq_true', and_assoc]
    simp only [step_env h, envEffect_eStart, hen, beginTurn_wires, beginTurn_trace, beginTurn_ctrl,
      I2cFsm.wired_beginTurn, b]
  · have hen : envEnabled .eStop s = true ↔ s.wires.otherBusy = true ∧ s.ctrl.owned = false := by
      simp only [envEnabled, Bool.and_eq_true, Bool.not_eq_true']
    simp only [step_env h, envEffect_eStop, hen, beginTurn_wires, beginTurn_trace, beginTurn_ctrl,
      I2cFsm.wired_beginTurn, b]
  · rw [step_env h, if_pos (show envEnabled .eSclLow s = true from rfl), envEffect, updWires, beginTurn_wires]
  · rw [step_env h, if_pos (show envEnabled .eSclFree s = true from rfl), envEffect, updWires, beginTurn_wires]
  · have hen : envEnabled .eSdaLow s = true ↔ s.ctrl.owned = false := by
      simp only [envEnabled, Bool.not_eq_true']
    simp only [step_env h, envEffect, updWires, hen, beginTurn_wires, b]
  · rw [step_env h, if_pos (show envEnabled .eSdaFree s = true from rfl), envEffect, updWires, beginTurn_wires]

/-! ### The HOST (30_encoding.md R190) -/

/-- The statement the HOST is at does not change as its turn begins. -/
theorem currentStmt_beginTurn (s : State) : currentStmt (beginTurn s).host = currentStmt s.host := by
  rw [beginTurn_host]
  rfl

/-- A HOST turn at a statement that makes no access. -/
theorem step_host_local {s : State} {st : Stmt} (hturn : nextTurn s = .host) (hon : s.host.halted = false)
    (hst : s.host.prog[s.host.pc]? = some st) (hlocal : ∀ h, stmtAccess h st = none) :
    step s = .next (settle (localStmt st (beginTurn s))) := by
  have hcur : currentStmt (beginTurn s).host = some st := by
    rw [currentStmt_beginTurn, currentStmt, hon, if_neg Bool.false_ne_true, hst]
  have hfetch : fetch .host (beginTurn s) = none := by
    rw [fetch, hostFetch, hcur]
    exact hlocal _
  rw [step_of_fetch_none hturn hfetch, localStep, hostLocal, hcur]

/-- Settles O57: the effect of each statement, and none where the HOST has ended. -/
theorem hostLocalStatements : Obligations.HostLocalStatements := by
  intro s hturn b
  have htemps : (beginTurn s).host.temps = s.host.temps := by rw [beginTurn_host]
  have hpc : (beginTurn s).host.pc = s.host.pc := by rw [beginTurn_host]
  refine ⟨fun hend => ?_, fun hon => ⟨fun t e h => ?_, fun c l h => ?_, fun l h => ?_, fun e h => ?_, fun h => ?_⟩⟩
  · have hcur : currentStmt (beginTurn s).host = none := by
      rw [currentStmt_beginTurn, currentStmt, hend, if_pos rfl]
    have hfetch : fetch .host (beginTurn s) = none := by
      rw [fetch, hostFetch, hcur]
      rfl
    rw [step_of_fetch_none hturn hfetch, localStep, hostLocal, hcur]
  · rw [step_host_local hturn hon h fun _ => rfl, localStmt, htemps, ← htemps, ← hpc]
    rfl
  · rw [step_host_local hturn hon h fun _ => rfl, localStmt, htemps, ← hpc]
    split <;> rfl
  · rw [step_host_local hturn hon h fun _ => rfl]
    rfl
  · rw [step_host_local hturn hon h fun _ => rfl, localStmt, htemps]
    rfl
  · rw [step_host_local hturn hon h fun _ => rfl]
    rfl

/-! ### What an instruction's turn ends with (30_encoding.md R190, 43_i2c_fsm.md R445) -/

/-- The HOST's turn ends with its statement retired. -/
theorem hostFinish_of {s : State} {st : Stmt} (h : currentStmt s.host = some st) :
    finish .host s = settle (retire st s) := by
  rw [finish, hostFinish, h]

/-- The HOST fetches the access of its statement. -/
theorem hostFetch_of {s : State} {st : Stmt} (h : currentStmt s.host = some st) :
    fetch .host s = stmtAccess s.host st := by
  rw [fetch, hostFetch, h]
  rfl

/-- A POLL goes on exactly where its value ends it. -/
theorem pollEnds_of {s : State} {v : Word} (h : s.host.readData = some v) (stop : Word → Bool) :
    pollEnds stop s =
      { s with host := { s.host with pc := if stop v = true then s.host.pc + 1 else s.host.pc } } := by
  rw [pollEnds, h]
  cases hstop : stop v
  · simp only [hstop, Bool.false_eq_true, if_false]
  · simp only [hstop, if_true]
    rfl

/-- A read is retired: its value, where it has one, enters its temporary. -/
theorem retire_rd (n : Nat) (a : BitVec 32) (t : Option Nat) (s : State) : retire (.rd n a t) s =
    { s with host := { s.host with
        pc := s.host.pc + 1
        temps := match t, s.host.readData with
          | some u, some v => tempSet s.host.temps u v
          | _, _ => s.host.temps } } := by
  obtain ⟨_, _, _, _, _, _, _, _, _, ⟨_, _, _, _, _, value⟩, _, _⟩ := s
  cases t with
  | none => rfl
  | some u => cases value <;> rfl

/-- Settles O8: the fetched instruction is run and its turn ends; each kind of access fetches its words and is
retired by its statement. -/
theorem stepRunsDecodedInstruction : Obligations.StepRunsDecodedInstruction := by
  refine ⟨fun s c i hc hd => step_of_decode hc hd, fun s => ⟨fun n a t h => ?_, fun n a e h => ?_,
    fun a m x h => ?_, fun a m x h => ?_, fun c hshift hen => ⟨?_, rfl⟩, ?_⟩⟩
  · exact ⟨hostFetch_of h, (hostFinish_of h).trans (congrArg settle (retire_rd n a t s))⟩
  · exact ⟨hostFetch_of h, (hostFinish_of h).trans (congrArg settle rfl)⟩
  · refine ⟨hostFetch_of h, fun v hv => (hostFinish_of h).trans (congrArg settle ?_)⟩
    simp only [retire, pollEnds_of hv, beq_iff_eq]
  · refine ⟨hostFetch_of h, fun v hv => (hostFinish_of h).trans (congrArg settle ?_)⟩
    simp only [retire, pollEnds_of hv, bne_iff_ne]
  · refine ⟨wordOfCmd c, ?_, Encoding.decode_wordOfCmd c⟩
    have hready : xferReady s = true := by rw [xferReady, hshift]; exact hen
    rw [fetch, ctrlFetch, hready, if_pos rfl, hshift]
    rfl
  · obtain ⟨b, hb, hs⟩ := settle_marks s
    exact ⟨b, fun h => (Bool.and_eq_true _ _).mp (hb h), hs⟩

/-- All that the end of a turn can do: the HOST's place and temporaries, the two outputs, marks of contention, one
moment. -/
theorem finish_frame (t : Turn) (s : State) : ∃ p l b fs,
    (l = s.host.temps ∨ ∃ k v, s.host.readData = some v ∧ l = tempSet s.host.temps k v) ∧
    (b = true → (s.ctrl.icEn && s.ctrl.owned) = true) ∧
    finish t s = { s with
      ctrl := { s.ctrl with sclOe := s.ctrl.icEn && s.ctrl.owned, sdaOe := b }
      marks := { s.marks with faulted := s.marks.faulted ++ fs }
      host := { s.host with pc := p, temps := l }
      draws := s.draws + 1 } := by
  obtain ⟨p, l, hl, hfin⟩ := finish_eq t s
  obtain ⟨b, fs, hb, hset⟩ := settle_eq { s with host := { s.host with pc := p, temps := l } }
  exact ⟨p, l, b, fs, hl, hb, hfin.trans hset⟩

/-- Settles O9: the refusal is marked, and the turn ends with the outputs settled. -/
theorem undecodedAccessOnlyMarks : Obligations.UndecodedAccessOnlyMarks := by
  intro s c r hc hd
  obtain ⟨p, l, b, fs, -, hb, hfin⟩ := finish_frame (nextTurn s) (refuse r (beginTurn s))
  refine ⟨_, (step_of_decode_error hc hd).trans (congrArg _ hfin), ?_⟩
  simp only [refuse_marks, refuse_i2c, refuse_ctrl, refuse_resets, refuse_io, refuse_pads, refuse_sio,
    refuse_wires, refuse_trace, beginTurn_marks, beginTurn_i2c, beginTurn_ctrl, beginTurn_resets,
    beginTurn_io, beginTurn_pads, beginTurn_sio, beginTurn_wires, beginTurn_trace, true_and, and_true] at hb ⊢
  exact fun h => (Bool.and_eq_true _ _).mp (hb h)

end Sys2Proof.Proofs.Turns
end

section
/-! The timing refinement (70_reset_and_hazards.md R730 to R736, 30_encoding.md R172): what one cycle does, the
segments of each event, those a command and S_ABORT queue, and the wires within a cycle; and the divider
(41_i2c_config.md R342, R343, R330). -/

namespace Sys2Proof.Proofs.Timing

open Sys2Proof Sys2Proof.Machine Sys2Proof.Safety Sys2Proof.Laws

/-! ### The divider -/

/-- A high count as its register stores it, where it is no less than the minimum and fits. -/
theorem toNat_legalHcnt {n : Nat} (hmin : 8 ≤ n) (hmax : n ≤ 0xFFFF) :
    (legalHcnt (BitVec.ofNat 32 n)).toNat = n := by
  have hfield : (fieldAt (BitVec.ofNat 32 n) 0 16).toNat = n := by
    simp [fieldAt]
    omega
  unfold legalHcnt
  split
  case isTrue hlt =>
    rw [BitVec.lt_def, hfield] at hlt
    exact absurd hlt (by simp [Config.hcntMin]; omega)
  case isFalse => exact hfield

/-- A low count as its register stores it, where it is no less than the minimum and fits. -/
theorem toNat_legalLcnt {n : Nat} (hmin : 8 ≤ n) (hmax : n ≤ 0xFFFF) :
    (legalLcnt (BitVec.ofNat 32 n)).toNat = n := by
  have hfield : (fieldAt (BitVec.ofNat 32 n) 0 16).toNat = n := by
    simp [fieldAt]
    omega
  unfold legalLcnt
  split
  case isTrue hlt =>
    rw [BitVec.lt_def, hfield] at hlt
    exact absurd hlt (by simp [Config.lcntMin]; omega)
  case isFalse => exact hfield

/-- A spike length is stored as no more than it is, or as the minimum. -/
theorem toNat_legalSpklen_le {n : Nat} (hmin : 1 ≤ n) : (legalSpklen (BitVec.ofNat 32 n)).toNat ≤ n := by
  have hfield : (fieldAt (BitVec.ofNat 32 n) 0 8).toNat ≤ n := by
    simp [fieldAt]
    omega
  unfold legalSpklen
  split
  · exact hmin
  · exact hfield

/-- The divider's spike length is at least the minimum. -/
theorem one_le_spklen (F f : Nat) : 1 ≤ (divider F f).spklen := by
  unfold divider
  dsimp only
  split <;> omega

/-- `valid` of the divider formula, as its inequalities. -/
theorem divider_valid_iff (d : Divider) : d.valid = true ↔
    8 ≤ d.hcnt ∧ 8 ≤ d.lcnt ∧ d.hcnt ≤ 0xFFFF ∧ d.lcnt ≤ 0xFFFF ∧ d.spklen + 5 < d.hcnt ∧
      d.spklen + 7 < d.lcnt ∧ d.hold + 2 < d.lcnt := by
  simp only [Divider.valid, Bool.and_eq_true, decide_eq_true_eq, and_assoc]

/-- Settles O58: the counts are stored as they are, the spike length and the hold as no more than they are. -/
theorem validDividerIsAdmitted : Obligations.ValidDividerIsAdmitted := by
  intro F f r hvalid hmaster hslave h10 hspecial hh hl hspk hhold
  obtain ⟨hhmin, hlmin, hhmax, hlmax, hhspk, hlspk, hlhold⟩ := (divider_valid_iff _).mp hvalid
  have hspkle := toNat_legalSpklen_le (one_le_spklen F f)
  have hholdle : r.sdaTxHold.toNat ≤ (divider F f).hold := by
    rw [hhold, BitVec.toNat_ofNat]
    exact Nat.mod_le _ _
  rw [← hspk] at hspkle
  have hhcnt := (congrArg BitVec.toNat hh).trans (toNat_legalHcnt hhmin hhmax)
  have hlcnt := (congrArg BitVec.toNat hl).trans (toNat_legalLcnt hlmin hlmax)
  rw [admissionFailure, hmaster, hslave, h10, hspecial, if_neg (by decide), if_neg (by decide),
    if_neg (by decide), if_neg (by decide), if_neg (by omega), if_neg (by omega), if_neg (by omega)]

/-- The divider for 400 kHz and a clock of `k` kHz: its values, and the bounds of R343 in whole numbers. -/
theorem divider_fast_bounds {k : Nat} (hk : 7000 ≤ k) (hk' : k ≤ 140000) :
    let d := divider (1000 * k) 400000
    d.valid = true ∧ (d.hcnt + d.lcnt) * 400 ≤ k + 400 ∧ k ≤ (d.hcnt + d.lcnt) * 400 + 400 ∧
      6 * k ≤ d.hcnt * 10000 ∧ 13 * k ≤ d.lcnt * 10000 := by
  intro d
  have hperiod : d.period = (1000 * k + 200000) / 400000 := rfl
  have hlcnt : d.lcnt = d.period * 3 / 5 := rfl
  have hhcnt : d.hcnt = d.period - d.lcnt := rfl
  have hhold : d.hold = 1000 * k * 3 / 10000000 + 1 := rfl
  have hspklen : d.spklen = if d.lcnt < 16 then 1 else d.lcnt / 16 := rfl
  rw [divider_valid_iff]
  split at hspklen <;> omega

/-- Settles O59: the bounds in whole numbers, as rationals. -/
theorem dividerMeetsTiming : Obligations.DividerMeetsTiming := by
  intro k hk hk' d F
  obtain ⟨hvalid, hle, hge, hh, hl⟩ := divider_fast_bounds hk hk'
  have hF : 0 < F := by positivity
  have hle' : ((d.hcnt : ℚ) + d.lcnt) * 400 ≤ k + 400 := by exact_mod_cast hle
  have hge' : (k : ℚ) ≤ ((d.hcnt : ℚ) + d.lcnt) * 400 + 400 := by exact_mod_cast hge
  have hh' : 6 * (k : ℚ) ≤ d.hcnt * 10000 := by exact_mod_cast hh
  have hl' : 13 * (k : ℚ) ≤ d.lcnt * 10000 := by exact_mod_cast hl
  refine ⟨hvalid, abs_le.mpr ⟨?_, ?_⟩, ?_, ?_, fun r hrh hrl => ?_⟩
  · simp only [F]; linarith
  · simp only [F]; linarith
  · rw [ge_iff_le, le_div_iff₀ hF]; simp only [F]; linarith
  · rw [ge_iff_le, le_div_iff₀ hF]; simp only [F]; linarith
  · simp only [timingOk, hrh, hrl, d, Bool.and_eq_true, decide_eq_true_eq]
    omega

end Sys2Proof.Proofs.Timing
end

section
/-! What an instruction can do to the state: one list of effects, with what holds where each takes place, for the
invariants of every step. -/

namespace Sys2Proof.Proofs.Effects

open Sys2Proof Sys2Proof.Machine Sys2Proof.Safety Sys2Proof.Laws Sys2Proof.Proofs.Transfer

/-! ### The effects -/

/-- No latched bit of `q` is set that is not set in `r`, but for ACTIVITY where `act` holds. -/
structure Cleared (act : Bool) (r q : RawBits) : Prop where
  rxUnder : q.rxUnder = true → r.rxUnder = true
  rxOver : q.rxOver = true → r.rxOver = true
  txOver : q.txOver = true → r.txOver = true
  rdReq : q.rdReq = true → r.rdReq = true
  txAbrt : q.txAbrt = true → r.txAbrt = true
  rxDone : q.rxDone = true → r.rxDone = true
  activity : q.activity = true → r.activity = true ∨ act = true
  stopDet : q.stopDet = true → r.stopDet = true
  startDet : q.startDet = true → r.startDet = true
  genCall : q.genCall = true → r.genCall = true
  restartDet : q.restartDet = true → r.restartDet = true

theorem Cleared.refl (act : Bool) (r : RawBits) : Cleared act r r :=
  ⟨id, id, id, id, id, id, Or.inl, id, id, id, id⟩

/-- The state after a read that returned `v`, marked the contentions `fs` and left the moment `k`. -/
def reads (v : Word) (fs : List Fault) (k : Nat) (s : State) : State :=
  { s with
    host := { s.host with readData := some v }
    marks := { s.marks with faulted := s.marks.faulted ++ fs }
    draws := k }

/-- All that instruction `i` can do in state `s`. -/
inductive Effect (i : Instr) (s : State) : State → Prop
  | stays : Effect i s s
  | refused (r : Reason) : Effect i s (refuse r s)
  | answered (v : Word) (fs : List Fault) (k : Nat) : Effect i s (reads v fs k s)
  | cleared (v : Word) (k : Nat) {r : RawBits} (hdone : s.resets.done.getLsbD 3 = true)
      (hr : Cleared (mstActivity s) s.ctrl.raw r) : Effect i s (reads v [] k (setRaw s r))
  | abortCleared (v : Word) (k : Nat) (c : BitVec 9) {r : RawBits} (hdone : s.resets.done.getLsbD 3 = true)
      (hr : Cleared (mstActivity s) s.ctrl.raw r) (hi : i = .rdIcClrTxAbrt ∨ i = .rdIcClrIntr) :
      Effect i s (reads v [] k { s with
        i2c := { s.i2c with abrtSource := 0, txFlushCnt := c }
        ctrl := { s.ctrl with raw := r, flushHold := false } })
  | underflowed (v : Word) (k : Nat) (hdone : s.resets.done.getLsbD 3 = true) (hi : i = .rdIcDataCmd) :
      Effect i s (reads v [] k (setRaw s { s.ctrl.raw with rxUnder := true }))
  | popped (v : Word) (k : Nat) {b : Byte} {rest : List Byte} (hdone : s.resets.done.getLsbD 3 = true)
      (hrxq : s.ctrl.rxq = b :: rest) :
      Effect i s (reads v [] k { s with ctrl := { s.ctrl with rxq := rest } })
  | overflowed {v : Word} (hdone : s.resets.done.getLsbD 3 = true) (hi : i = .wrIcDataCmd v) :
      Effect i s (setRaw s { s.ctrl.raw with txOver := true })
  | pushed (c : Cmd) (hdone : s.resets.done.getLsbD 3 = true) (hon : s.ctrl.icEn = true)
      (hflush : s.ctrl.flushHold = false) (hlen : s.ctrl.txq.length ≠ 16) :
      Effect i s { s with ctrl := { s.ctrl with txq := s.ctrl.txq ++ [c] } }
  | configured {r : I2cRegs} (hdone : s.resets.done.getLsbD 3 = true)
      (hlegal : configLegal s.i2c = true → configLegal r = true) (hen : r.enable = s.i2c.enable)
      (hsrc : r.abrtSource = s.i2c.abrtSource) : Effect i s { s with i2c := r }
  | disables (b : Bool) (hdone : s.resets.done.getLsbD 3 = true)
      (hidle : (s.ctrl.owned || s.ctrl.shift.isSome || s.i2c.enable.abort) = false) :
      Effect i s (storeEnable false false b (disableCtrl s))
  | enables (e a b : Bool) (hdone : s.resets.done.getLsbD 3 = true)
      (hoff : e = false → s.ctrl.icEn = false ∧ a = false) :
      Effect i s (storeEnable e a b { s with ctrl := { s.ctrl with icEn := e } })
  | resets (x : BitVec 25) {op : AliasOp} {v : Word} (hi : i = .wrResetsReset op v) : Effect i s (writeResets x s)
  | watchdog (x : BitVec 25) : Effect i s { s with resets := { s.resets with wdsel := x } }
  | pin {n : Nat} {c : PinCtrl} (hdone : s.resets.done.getLsbD 5 = true)
      (hlegal : funcselLegal c.funcsel n = true)
      (hclash : ¬ (c.funcsel = 3#5 ∧ isI2c0Pin n = true ∧ otherPinSelects s n = true)) :
      Effect i s (setPinCtrl s n c)
  | pads (p : PadsBank) (hdone : s.resets.done.getLsbD 8 = true) : Effect i s { s with pads := p }
  | sio (x : SioBank) : Effect i s { s with sio := x }
  | command {c : Cmd} {es : List BusEvent} {u : State} (hi : i = instrOfCmd c) (hen : xferEnabled c s = true)
      (h : XferOutcome c s es u) : Effect i s (emitAll es u)

/-! ### Shared operations -/

section
variable {i : Instr} {s : State}

/-- An access to a block is refused or has an effect of the block out of reset. -/
theorem effect_inBlock {b : Nat} {f : State → State}
    (h : s.resets.done.getLsbD b = true → Effect i s (f s)) : Effect i s (inBlock b f s) := by
  obtain ⟨hdone, hs⟩ | ⟨-, hs⟩ := inBlock_cases b f s
  · rw [hs]; exact h hdone
  · rw [hs]; exact .refused _

/-- An access to a pin's register is refused or has an effect. -/
theorem effect_onPin {n : BitVec 5} {f : State → State} (h : Effect i s (f s)) : Effect i s (onPin n f s) := by
  obtain ⟨-, hs⟩ | ⟨-, hs⟩ := onPin_cases n f s
  · rw [hs]; exact h
  · rw [hs]; exact .refused _

theorem reads_nil (v : Word) (k : Nat) (s : State) :
    reads v [] k s = { s with host := { s.host with readData := some v }, draws := k } := by
  rw [reads, List.append_nil]

theorem respondMasked_eq_reads (d v : Word) (s : State) : ∃ x, respondMasked d v s = reads x [] (s.draws + 1) s :=
  ⟨_, (reads_nil _ _ s).symm⟩

/-- A read of stored bits. -/
theorem effect_respondMasked (d v : Word) : Effect i s (respondMasked d v s) := by
  obtain ⟨x, hx⟩ := respondMasked_eq_reads d v s
  rw [hx]
  exact .answered _ _ _

/-- A read of a constant. -/
theorem effect_respond (v : Word) : Effect i s (respond v s) := by
  have h : respond v s = reads v [] s.draws s := (reads_nil _ _ s).symm
  rw [h]
  exact .answered _ _ _

/-- A read of a field at bit 0, of a block out of reset. -/
theorem effect_read {b w : Nat} (f : BitVec w) : Effect i s (inBlock b (respondLow f) s) :=
  effect_inBlock fun _ => effect_respondMasked _ _

/-- A clear of latched bits. -/
theorem effect_clearRaw {f : RawBits → RawBits} (h : Cleared (mstActivity s) s.ctrl.raw (f s.ctrl.raw)) :
    Effect i s (inBlock i2cBit (clearRaw f) s) := by
  refine effect_inBlock fun hdone => ?_
  obtain ⟨x, hx⟩ := respondMasked_eq_reads 0 0 (setRaw s (f s.ctrl.raw))
  rw [clearRaw, respondFree, hx]
  exact .cleared _ _ hdone h

/-- A write of a configuration register at any time. -/
theorem effect_updI2c {f : I2cRegs → I2cRegs} (hlegal : configLegal s.i2c = true → configLegal (f s.i2c) = true)
    (hen : (f s.i2c).enable = s.i2c.enable) (hsrc : (f s.i2c).abrtSource = s.i2c.abrtSource) :
    Effect i s (inBlock i2cBit (updI2c f) s) :=
  effect_inBlock fun hdone => .configured hdone hlegal hen hsrc

/-- A gated write of a configuration register. -/
theorem effect_gated {f : I2cRegs → I2cRegs} (hlegal : configLegal s.i2c = true → configLegal (f s.i2c) = true)
    (hen : (f s.i2c).enable = s.i2c.enable) (hsrc : (f s.i2c).abrtSource = s.i2c.abrtSource) :
    Effect i s (inBlock i2cBit (gated (updI2c f)) s) := by
  refine effect_inBlock fun hdone => ?_
  obtain ⟨-, hs⟩ | ⟨-, hs⟩ := gated_cases (updI2c f) s
  · rw [hs]; exact .stays
  · rw [hs]; exact .configured hdone hlegal hen hsrc

/-- A write of a configuration register that is refused while enabled. -/
theorem effect_whileDisabled {f : I2cRegs → I2cRegs}
    (hlegal : configLegal s.i2c = true → configLegal (f s.i2c) = true)
    (hen : (f s.i2c).enable = s.i2c.enable) (hsrc : (f s.i2c).abrtSource = s.i2c.abrtSource) :
    Effect i s (inBlock i2cBit (whileDisabled (updI2c f)) s) := by
  refine effect_inBlock fun hdone => ?_
  obtain ⟨-, hs⟩ | ⟨-, hs⟩ := whileDisabled_cases (updI2c f) s
  · rw [hs]; exact .refused _
  · rw [hs]; exact .configured hdone hlegal hen hsrc

/-- A threshold write. -/
theorem effect_writeThreshold {w : Word} {f : BitVec 8 → I2cRegs → I2cRegs}
    (hlegal : (fieldAt w 0 8).toNat ≤ 15 → configLegal s.i2c = true → configLegal (f (fieldAt w 0 8) s.i2c) = true)
    (hen : ∀ x, (f x s.i2c).enable = s.i2c.enable) (hsrc : ∀ x, (f x s.i2c).abrtSource = s.i2c.abrtSource) :
    Effect i s (inBlock i2cBit (writeThreshold w (fun x => updI2c (f x))) s) := by
  refine effect_inBlock fun hdone => ?_
  obtain ⟨-, hs⟩ | ⟨hle, hs⟩ := writeThreshold_cases w (fun x => updI2c (f x)) s
  · rw [hs]; exact .refused _
  · rw [hs]; exact .configured hdone (hlegal hle) (hen _) (hsrc _)

end

/-! ### Legal configuration values (41_i2c_config.md R303, R305, R307, R310) -/

theorem configLegal_iff (r : I2cRegs) : configLegal r = true ↔
    (r.con.speed = 1#2 ∨ r.con.speed = 2#2) ∧ Config.hcntMin ≤ r.ssHcnt ∧ Config.hcntMin ≤ r.fsHcnt ∧
    Config.lcntMin ≤ r.ssLcnt ∧ Config.lcntMin ≤ r.fsLcnt ∧ Config.spklenMin ≤ r.fsSpklen ∧
    r.rxTl ≤ 15#8 ∧ r.txTl ≤ 15#8 := by
  simp only [configLegal, Bool.and_eq_true, Bool.or_eq_true, beq_iff_eq, decide_eq_true_eq, and_assoc]

theorem speed_icConOfWord (w : Word) : (icConOfWord w).speed = 1#2 ∨ (icConOfWord w).speed = 2#2 := by
  unfold icConOfWord legalSpeed
  dsimp only
  split
  · exact .inl rfl
  · exact .inr rfl

theorem hcntMin_le_legalHcnt (w : Word) : Config.hcntMin ≤ legalHcnt w := by
  unfold legalHcnt
  split
  · exact BitVec.le_refl _
  · exact BitVec.not_lt.mp ‹_›

theorem lcntMin_le_legalLcnt (w : Word) : Config.lcntMin ≤ legalLcnt w := by
  unfold legalLcnt
  split
  · exact BitVec.le_refl _
  · exact BitVec.not_lt.mp ‹_›

theorem spklenMin_le_legalSpklen (w : Word) : Config.spklenMin ≤ legalSpklen w := by
  unfold legalSpklen
  split
  · exact BitVec.le_refl _
  · exact BitVec.not_lt.mp ‹_›

/-! ### The operations of IC_DATA_CMD, IC_ENABLE and GPIOn_CTRL, and the commands -/

theorem effect_popByte (s : State) (hdone : s.resets.done.getLsbD 3 = true) :
    Effect .rdIcDataCmd s (popByte s) := by
  obtain ⟨-, hs⟩ | ⟨-, -, hs⟩ | ⟨-, b, rest, hrxq, hs⟩ := popByte_cases s
  · rw [hs]
    exact .refused _
  · obtain ⟨x, hx⟩ := respondMasked_eq_reads 0 0 (setRaw s { s.ctrl.raw with rxUnder := true })
    rw [hs, respondFree, hx]
    exact .underflowed _ _ hdone rfl
  · obtain ⟨x, hx⟩ := respondMasked_eq_reads ((BitVec.allOnes 8).setWidth 32) (zext b)
      { s with ctrl := { s.ctrl with rxq := rest } }
    rw [hs, respondLow, hx]
    exact .popped _ _ hdone hrxq

theorem effect_pushCommand (v : Word) (s : State) (hdone : s.resets.done.getLsbD 3 = true) :
    Effect (.wrIcDataCmd v) s (pushCommand v s) := by
  obtain ⟨-, hs⟩ | ⟨-, -, hs⟩ | ⟨-, -, -, hs⟩ | ⟨hon, hflush, hlen, hs⟩ := pushCommand_cases v s
  · rw [hs]; exact .refused _
  · rw [hs]; exact .refused _
  · rw [hs]; exact .overflowed hdone rfl
  · rw [hs]; exact .pushed _ hdone hon hflush hlen

theorem effect_writeEnable {i : Instr} (v : Word) (s : State) (hdone : s.resets.done.getLsbD 3 = true) :
    Effect i s (writeEnable v s) := by
  have same (b : Bool) (h : s.ctrl.icEn = b) : { s with ctrl := { s.ctrl with icEn := b } } = s := by rw [← h]
  obtain ⟨-, -, hs⟩ | ⟨-, -, -, -, hs⟩ | ⟨-, -, -, hidle, hs⟩ | ⟨-, -, hoff, hs⟩ | ⟨-, hon, hs⟩ |
    ⟨-, -, ⟨r, -, hs⟩ | ⟨-, hs⟩⟩ := writeEnable_cases v s
  · rw [hs]; exact .refused _
  · rw [hs]; exact .refused _
  · rw [hs]; exact .disables _ hdone hidle
  · have h := Effect.enables (i := i) false false (v.getLsbD 2) hdone fun _ => ⟨hoff, rfl⟩
    rwa [same false hoff, ← hs] at h
  · have h := Effect.enables (i := i) true (v.getLsbD 1) (v.getLsbD 2) hdone fun h => Bool.noConfusion h
    rwa [same true hon, ← hs] at h
  · rw [hs]; exact .refused _
  · rw [hs]
    exact .enables true _ _ hdone fun h => Bool.noConfusion h

theorem effect_writePinCtrl {i : Instr} (n : Nat) (w : Word) (s : State) (hdone : s.resets.done.getLsbD 5 = true) :
    Effect i s (writePinCtrl n w s) := by
  obtain ⟨-, hs⟩ | ⟨-, -, hs⟩ | ⟨hlegal, hclash, hs⟩ := writePinCtrl_cases n w s
  · rw [hs]; exact .refused _
  · rw [hs]; exact .refused _
  · rw [hs]; exact .pin hdone hlegal hclash

theorem effect_readGpioStatus {i : Instr} (n : Nat) (s : State) : Effect i s (readGpioStatus n s) := by
  obtain ⟨v, hv⟩ := readGpioStatus_eq n s
  rw [hv]
  exact .answered _ _ _

theorem effect_readGpioIn {i : Instr} (s : State) : Effect i s (readGpioIn s) := by
  unfold readGpioIn
  rw [checkReads_eq]
  exact .answered _ _ _

theorem effect_performCmd (c : Cmd) (s : State) : Effect (instrOfCmd c) s (performCmd c s) := by
  obtain ⟨hen, hs⟩ | ⟨-, hs⟩ := performCmd_cases c s
  · obtain ⟨es, u, h⟩ := exists_xferOutcome c s
    rw [hs, xfer_eq h]
    exact .command rfl hen h
  · rw [hs]; exact .stays

/-! ### Every instruction -/

/-- A command instruction has the effect of its command. -/
theorem effect_of_command {c : Cmd} {s t : State} (h : exec (instrOfCmd c) s = .next t) :
    Effect (instrOfCmd c) s t := by
  rw [exec_instrOfCmd] at h
  cases h
  exact effect_performCmd c s

/-- Every instruction has one of the effects. -/
theorem exec_effect {i : Instr} {s t : State} (h : exec i s = .next t) : Effect i s t := by
  cases i with
  | rdIcCon | rdIcTar | rdIcSar | rdIcSsSclHcnt | rdIcSsSclLcnt | rdIcFsSclHcnt | rdIcFsSclLcnt | rdIcIntrStat
  | rdIcIntrMask | rdIcRawIntrStat | rdIcRxTl | rdIcTxTl | rdIcEnable | rdIcStatus | rdIcTxflr | rdIcRxflr
  | rdIcSdaHold | rdIcSlvDataNackOnly | rdIcDmaCr | rdIcDmaTdlr | rdIcDmaRdlr | rdIcSdaSetup | rdIcAckGeneralCall
  | rdIcEnableStatus | rdIcFsSpklen | rdVoltageSelect => cases h; exact effect_read _
  | rdIcTxAbrtSource => cases h; exact effect_inBlock fun _ => effect_respondMasked _ _
  | rdIcCompParam1 | rdIcCompVersion | rdIcCompType => cases h; exact effect_inBlock fun _ => effect_respond _
  | rdIcDataCmd => cases h; exact effect_inBlock (effect_popByte s)
  | wrIcDataCmd v => cases h; exact effect_inBlock (effect_pushCommand v s)
  | wrIcEnable v => cases h; exact effect_inBlock (effect_writeEnable v s)
  | wrIcCon op v =>
    cases h
    refine effect_gated (fun hl => ?_) rfl rfl
    obtain ⟨-, hrest⟩ := (configLegal_iff _).mp hl
    exact (configLegal_iff _).mpr ⟨speed_icConOfWord _, hrest⟩
  | wrIcTar op v | wrIcSar op v => cases h; exact effect_gated id rfl rfl
  | wrIcSsSclHcnt op v =>
    cases h
    refine effect_gated (fun hl => ?_) rfl rfl
    obtain ⟨hspeed, -, hrest⟩ := (configLegal_iff _).mp hl
    exact (configLegal_iff _).mpr ⟨hspeed, hcntMin_le_legalHcnt _, hrest⟩
  | wrIcSsSclLcnt op v =>
    cases h
    refine effect_gated (fun hl => ?_) rfl rfl
    obtain ⟨hspeed, hss, hfs, -, hrest⟩ := (configLegal_iff _).mp hl
    exact (configLegal_iff _).mpr ⟨hspeed, hss, hfs, lcntMin_le_legalLcnt _, hrest⟩
  | wrIcFsSclHcnt op v =>
    cases h
    refine effect_gated (fun hl => ?_) rfl rfl
    obtain ⟨hspeed, hss, -, hrest⟩ := (configLegal_iff _).mp hl
    exact (configLegal_iff _).mpr ⟨hspeed, hss, hcntMin_le_legalHcnt _, hrest⟩
  | wrIcFsSclLcnt op v =>
    cases h
    refine effect_gated (fun hl => ?_) rfl rfl
    obtain ⟨hspeed, hss, hfs, hssl, -, hrest⟩ := (configLegal_iff _).mp hl
    exact (configLegal_iff _).mpr ⟨hspeed, hss, hfs, hssl, lcntMin_le_legalLcnt _, hrest⟩
  | wrIcFsSpklen op v =>
    cases h
    refine effect_gated (fun hl => ?_) rfl rfl
    obtain ⟨hspeed, hss, hfs, hssl, hfsl, -, hrest⟩ := (configLegal_iff _).mp hl
    exact (configLegal_iff _).mpr ⟨hspeed, hss, hfs, hssl, hfsl, spklenMin_le_legalSpklen _, hrest⟩
  | wrIcRxTl op v =>
    cases h
    refine effect_writeThreshold (f := fun x r => { r with rxTl := x }) (fun hle hl => ?_) (fun _ => rfl) fun _ => rfl
    obtain ⟨hspeed, hss, hfs, hssl, hfsl, hspk, -, htx⟩ := (configLegal_iff _).mp hl
    exact (configLegal_iff _).mpr ⟨hspeed, hss, hfs, hssl, hfsl, hspk, BitVec.le_def.mpr hle, htx⟩
  | wrIcTxTl op v =>
    cases h
    refine effect_writeThreshold (f := fun x r => { r with txTl := x }) (fun hle hl => ?_) (fun _ => rfl) fun _ => rfl
    obtain ⟨hspeed, hss, hfs, hssl, hfsl, hspk, hrx, -⟩ := (configLegal_iff _).mp hl
    exact (configLegal_iff _).mpr ⟨hspeed, hss, hfs, hssl, hfsl, hspk, hrx, BitVec.le_def.mpr hle⟩
  | wrIcSdaHold op v | wrIcSdaSetup op v => cases h; exact effect_whileDisabled id rfl rfl
  | wrIcIntrMask op v | wrIcSlvDataNackOnly op v | wrIcDmaCr op v | wrIcDmaTdlr op v | wrIcDmaRdlr op v
  | wrIcAckGeneralCall op v => cases h; exact effect_updI2c id rfl rfl
  | rdIcClrRxUnder | rdIcClrRxOver | rdIcClrTxOver | rdIcClrRdReq | rdIcClrRxDone | rdIcClrStopDet
  | rdIcClrStartDet | rdIcClrGenCall | rdIcClrRestartDet =>
    cases h
    exact effect_clearRaw (by constructor <;> simp +contextual)
  | rdIcClrActivity =>
    cases h
    exact effect_clearRaw { Cleared.refl (mstActivity s) s.ctrl.raw with activity := Or.inr }
  | rdIcClrTxAbrt =>
    cases h
    refine effect_inBlock fun hdone => ?_
    obtain ⟨x, hx⟩ := respondMasked_eq_reads 0 0 (clearAbortSource (setRaw s { s.ctrl.raw with txAbrt := false }))
    rw [respondFree, hx]
    exact .abortCleared _ _ _ hdone { Cleared.refl (mstActivity s) s.ctrl.raw with txAbrt := nofun } (.inl rfl)
  | rdIcClrIntr =>
    cases h
    refine effect_inBlock fun hdone => ?_
    obtain ⟨x, hx⟩ := respondMasked_eq_reads 0 0 (clearAbortSource (clearAllRaw s))
    rw [respondFree, hx]
    exact .abortCleared _ _ _ hdone ⟨nofun, nofun, nofun, nofun, nofun, nofun, Or.inr, nofun, nofun, nofun, nofun⟩
      (.inr rfl)
  | rdResetsReset | rdResetsWdsel | rdResetsResetDone | rdSioGpioOut | rdSioGpioOutSet | rdSioGpioOutClr
  | rdSioGpioOutXor | rdSioGpioOe | rdSioGpioOeSet | rdSioGpioOeClr | rdSioGpioOeXor =>
    cases h; exact effect_respondMasked _ _
  | wrResetsReset op v => cases h; exact .resets _ rfl
  | wrResetsWdsel op v => cases h; exact .watchdog _
  | rdGpioStatus n => cases h; exact effect_onPin (effect_inBlock fun _ => effect_readGpioStatus _ s)
  | rdGpioCtrl n => cases h; exact effect_onPin (effect_inBlock fun _ => effect_respondMasked _ _)
  | wrGpioCtrl n op v => cases h; exact effect_onPin (effect_inBlock (effect_writePinCtrl _ _ s))
  | wrVoltageSelect op v => cases h; exact effect_inBlock (.pads _)
  | rdPadGpio n => cases h; exact effect_onPin (effect_read _)
  | wrPadGpio n op v => cases h; exact effect_onPin (effect_inBlock (.pads _))
  | rdSioCpuid => cases h; exact effect_respond _
  | rdSioGpioIn => exact Host.Outcome.next.inj h ▸ effect_readGpioIn s
  | wrSioGpioOut v | wrSioGpioOutSet v | wrSioGpioOutClr v | wrSioGpioOutXor v | wrSioGpioOe v | wrSioGpioOeSet v
  | wrSioGpioOeClr v | wrSioGpioOeXor v => cases h; exact .sio _
  | cmdW d => exact effect_of_command (c := ⟨false, false, false, d⟩) h
  | cmdR d => exact effect_of_command (c := ⟨true, false, false, d⟩) h
  | cmdWStop d => exact effect_of_command (c := ⟨false, true, false, d⟩) h
  | cmdRStop d => exact effect_of_command (c := ⟨true, true, false, d⟩) h
  | cmdWRestart d => exact effect_of_command (c := ⟨false, false, true, d⟩) h
  | cmdRRestart d => exact effect_of_command (c := ⟨true, false, true, d⟩) h
  | cmdWRestartStop d => exact effect_of_command (c := ⟨false, true, true, d⟩) h
  | cmdRRestartStop d => exact effect_of_command (c := ⟨true, true, true, d⟩) h

end Sys2Proof.Proofs.Effects
end

section
/-! All that a step can do, from what an instruction can do, and what follows at once: the trace and the marks only
grow, the flush hold lasts, the latched bits have their causes (43_i2c_fsm.md R452, 42_i2c_data_status.md R380). -/

namespace Sys2Proof.Proofs.Steps

open Sys2Proof Sys2Proof.Machine Sys2Proof.Safety Sys2Proof.Laws Sys2Proof.Proofs.Transfer Sys2Proof.Proofs.Effects

/-! ### All that a step can do -/

/-- What an agent does in its turn before the step ends, but for a clock cycle. -/
inductive Acts (s : State) : State → Prop
  | ran {i : Instr} {u : State} (h : Effect i s u) : Acts s u
  | refused (r : Reason) : Acts s (refuse r s)
  | host {p : Nat} {l : List (Nat × Word)} {b : Bool} {r : Option Word} {rs : List Reason}
      (hl : l = s.host.temps ∨ ∃ k v, l = tempSet s.host.temps k v) :
      Acts s { s with
        host := { s.host with pc := p, temps := l, halted := b, result := r }
        marks := { s.marks with refused := s.marks.refused ++ rs } }
  | aborts (h : abortEnabled s = true) : Acts s (userAbort s)
  | takes {c : Cmd} {rest : List Cmd} (h : popEnabled s = true) (hc : s.ctrl.txq = c :: rest) :
      Acts s { s with ctrl := { s.ctrl with
        shift := some c, txq := rest, raw := { s.ctrl.raw with activity := true } } }
  | env {e : EnvStep} (h : envEnabled e s = true) : Acts s (envEffect e s)
  | released {i : Fin 25} (h : releaseEnabled i s = true) : Acts s (release i s)

/-- The HOST's statements that make no access change the HOST and mark a refusal, and nothing else. -/
theorem localStmt_eq (st : Stmt) (s : State) : ∃ p l b r rs,
    (l = s.host.temps ∨ ∃ k v, l = tempSet s.host.temps k v) ∧
    localStmt st s = { s with
      host := { s.host with pc := p, temps := l, halted := b, result := r }
      marks := { s.marks with refused := s.marks.refused ++ rs } } := by
  have unmarked : s.marks = { s.marks with refused := s.marks.refused ++ [] } := by rw [List.append_nil]
  cases st with
  | letTemp k e =>
    exact ⟨_, _, _, _, [], .inr ⟨k, _, rfl⟩, by rw [← unmarked]; rfl⟩
  | raiseRefuse r => exact ⟨_, _, _, _, [r], .inl rfl, rfl⟩
  | requirePins =>
    simp only [localStmt]
    split
    · exact ⟨_, _, _, _, [], .inl rfl, by rw [← unmarked]; rfl⟩
    · exact ⟨_, _, _, _, [_], .inl rfl, rfl⟩
  | requirePinBanks =>
    simp only [localStmt]
    split
    · exact ⟨_, _, _, _, [], .inl rfl, by rw [← unmarked]; rfl⟩
    · exact ⟨_, _, _, _, [_], .inl rfl, rfl⟩
  | ifGoto c k =>
    simp only [localStmt]
    split <;> exact ⟨_, _, _, _, [], .inl rfl, by rw [← unmarked]; rfl⟩
  | goto | ret | halt | rd | wr | poll | pollne =>
    exact ⟨_, _, _, _, [], .inl rfl, by rw [← unmarked]; rfl⟩

/-- A step that runs no instruction only begins the turn, or is a clock cycle, or ends what its agent does. -/
theorem localStep_acts (t : Turn) (s : State) :
    localStep t s = s ∨ localStep t s = clkLocal s ∨ ∃ u, Acts s u ∧ localStep t s = settle u := by
  obtain h | ⟨-, st, -, h⟩ | ⟨-, ha, h⟩ | ⟨-, hp, h⟩ | ⟨e, -, he, h⟩ | ⟨i, -, hi, h⟩ | ⟨-, h⟩ :=
    localStep_cases t s
  · exact .inl h
  · obtain ⟨p, l, b, r, rs, hl, hs⟩ := localStmt_eq st s
    exact .inr (.inr ⟨_, .host hl, h.trans (congrArg settle hs)⟩)
  · exact .inr (.inr ⟨_, .aborts ha, h⟩)
  · obtain ⟨hempty, -⟩ | ⟨c, rest, hc, hs⟩ := popCommand_cases s
    · exact absurd hempty ((I2cFsm.popEnabled_iff s).mp hp).2.2.2.2.2.2
    · exact .inr (.inr ⟨_, .takes hp hc, h.trans (congrArg settle hs)⟩)
  · exact .inr (.inr ⟨_, .env he, h⟩)
  · exact .inr (.inr ⟨_, .released hi, h⟩)
  · exact .inr (.inl h)

/-- What a step leaves after what its agent has done, `u`: the HOST's place and temporaries, the two outputs, marks of
contention, one moment. -/
def ended (p : Nat) (l : List (Nat × Word)) (b : Bool) (fs : List Fault) (u : State) : State :=
  { u with
    ctrl := { u.ctrl with sclOe := u.ctrl.icEn && u.ctrl.owned, sdaOe := b }
    marks := { u.marks with faulted := u.marks.faulted ++ fs }
    host := { u.host with pc := p, temps := l }
    draws := u.draws + 1 }

/-- All that a step can do. -/
inductive Stepped (s : State) : State → Prop
  | idle : Stepped s (beginTurn s)
  | cycle : Stepped s (clkLocal (beginTurn s))
  | acted {u : State} {p : Nat} {l : List (Nat × Word)} {b : Bool} {fs : List Fault} (hu : Acts (beginTurn s) u)
      (hl : l = u.host.temps ∨ ∃ k v, l = tempSet u.host.temps k v)
      (hb : b = true → (u.ctrl.icEn && u.ctrl.owned) = true) : Stepped s (ended p l b fs u)

theorem stepped_finish {s u : State} (t : Turn) (hu : Acts (beginTurn s) u) : Stepped s (finish t u) := by
  obtain ⟨p, l, b, fs, hl, hb, h⟩ := Turns.finish_frame t u
  rw [h]
  exact .acted hu (hl.imp id fun ⟨k, v, _, h⟩ => ⟨k, v, h⟩) hb

/-- Every step is one of them. -/
theorem step_stepped {s t : State} (h : step s = .next t) : Stepped s t := by
  obtain ⟨_, i, u, -, -, hu, rfl⟩ | ⟨_, r, -, -, rfl⟩ | ⟨-, rfl⟩ := step_cases h
  · exact stepped_finish _ (.ran (exec_effect hu))
  · exact stepped_finish _ (.refused r)
  · obtain h | h | ⟨u, hu, h⟩ := localStep_acts (nextTurn s) (beginTurn s)
    · rw [h]; exact .idle
    · rw [h]; exact .cycle
    · obtain ⟨b, fs, hb, hs⟩ := settle_eq u
      rw [h, hs]
      exact .acted hu (.inl rfl) hb

/-- A clock cycle changes the cycle-level state and the moment alone. -/
theorem clkLocal_eq (s : State) : ∃ p c g d e, clkLocal s = { s with
    ctrl := { s.ctrl with phase := p, cnt := c, segments := g, sdaLine := d, sdaDue := e }
    draws := s.draws + 1 } := by
  unfold clkLocal
  obtain ⟨-, h⟩ | ⟨-, -, h⟩ | ⟨-, -, -, h⟩ | ⟨-, -, -, h⟩ := clockTick_cases s
  · exact ⟨_, _, _, _, _, by rw [h]⟩
  · exact ⟨_, _, _, _, _, by rw [h]⟩
  · exact ⟨_, _, _, _, _, by rw [h]⟩
  · obtain ⟨g, rest, -, hs⟩ := enterNextPhase_cases s
    exact ⟨_, _, _, _, _, by rw [h, hs, enterSegment]⟩

/-- What a clock cycle does to an idle controller at its reset values: nothing. -/
theorem clkLocal_reset {s : State} (h : s.ctrl = Ctrl.reset) : (clkLocal s).ctrl = Ctrl.reset := by
  have hseg : s.ctrl.segments = [] := by rw [h]; rfl
  have henter : clockTick s = enterSegment ⟨.idle, some 0, none⟩ [] s := by
    obtain ⟨⟨hhigh, -⟩, -⟩ | ⟨-, hcnt, -⟩ | ⟨-, -, hwait, -⟩ | ⟨-, -, -, hs⟩ := clockTick_cases s
    · rw [h] at hhigh; cases hhigh
    · rw [h] at hcnt; cases hcnt
    · obtain ⟨⟨-, hhead⟩, -⟩ := (startWaits_iff s).mp hwait
      rw [hseg] at hhead
      cases hhead
    · rw [hs, enterNextPhase, hseg]
      simp only [restSegment, h]
      rfl
  show (clockTick s).ctrl = _
  rw [henter, enterSegment, h]
  rfl

/-! ### What S_XFER leaves of the rest of the state -/

/-- What S_XFER does not touch. -/
structure Apart (s u : State) : Prop where
  marks : u.marks = s.marks
  resets : u.resets = s.resets
  host : u.host = s.host
  io : u.io = s.io
  pads : u.pads = s.pads

theorem apart_of_dataOutcome {c : Cmd} {s u : State} {es : List BusEvent} (h : DataOutcome c s es u) :
    Apart s u := by
  cases h <;> exact ⟨rfl, rfl, rfl, rfl, rfl⟩

theorem apart_of_xferOutcome {c : Cmd} {s u : State} {es : List BusEvent} (h : XferOutcome c s es u) :
    Apart s u := by
  cases h with
  | goesOn _ h | addressed _ _ h =>
    obtain ⟨hmarks, hresets, hhost, hio, hpads⟩ := apart_of_dataOutcome h
    exact ⟨hmarks, hresets, hhost, hio, hpads⟩
  | refused | lost => exact ⟨rfl, rfl, rfl, rfl, rfl⟩

/-! ### The trace and the marks (10_state.md R70, R74) -/

/-- The trace and the marks of `t` are those of `s` with entries added at the end. -/
structure Grows (s t : State) : Prop where
  trace : s.trace <+: t.trace
  refused : s.marks.refused <+: t.marks.refused
  faulted : s.marks.faulted <+: t.marks.faulted

theorem Grows.trans {s t u : State} (h : Grows s t) (k : Grows t u) : Grows s u :=
  ⟨h.trace.trans k.trace, h.refused.trans k.refused, h.faulted.trans k.faulted⟩

theorem grows_of_eq {s t : State} (htrace : t.trace = s.trace) (hmarks : t.marks = s.marks) : Grows s t := by
  constructor
  · rw [htrace]
  · rw [hmarks]
  · rw [hmarks]

theorem grows_refuse (r : Reason) (s : State) : Grows s (refuse r s) :=
  ⟨List.prefix_rfl, List.prefix_append _ _, List.prefix_rfl⟩

theorem grows_of_effect {i : Instr} {s t : State} (h : Effect i s t) : Grows s t := by
  cases h with
  | refused r => exact grows_refuse r s
  | answered | cleared | abortCleared | underflowed | popped =>
    exact ⟨List.prefix_rfl, List.prefix_rfl, List.prefix_append _ _⟩
  | stays | overflowed | pushed | configured | disables | enables | watchdog | pin | pads | sio =>
    exact grows_of_eq rfl rfl
  | resets x =>
    rw [writeResets_eq]
    exact grows_of_eq rfl rfl
  | command _ _ hx =>
    rw [Commands.emitAll_of_kept (Commands.kept_of_xferOutcome hx)]
    have hmarks := (apart_of_xferOutcome hx).marks
    constructor
    · exact List.prefix_append _ _
    · exact hmarks ▸ List.prefix_rfl
    · exact hmarks ▸ List.prefix_rfl

theorem grows_of_acts {s t : State} (h : Acts s t) : Grows s t := by
  cases h with
  | ran h => exact grows_of_effect h
  | refused r => exact grows_refuse r s
  | host => exact ⟨List.prefix_rfl, List.prefix_append _ _, List.prefix_rfl⟩
  | aborts =>
    rw [I2cFsm.userAbort_eq]
    exact ⟨List.prefix_append _ _, List.prefix_rfl, List.prefix_rfl⟩
  | takes | released => exact grows_of_eq rfl rfl
  | @env e =>
    cases e with
    | eStart =>
      rw [Turns.envEffect_eStart]
      exact ⟨List.prefix_append _ _, List.prefix_rfl, List.prefix_rfl⟩
    | eStop =>
      rw [Turns.envEffect_eStop]
      exact ⟨List.prefix_append _ _, List.prefix_rfl, List.prefix_rfl⟩
    | eSclLow | eSclFree | eSdaLow | eSdaFree => exact grows_of_eq rfl rfl

theorem grows_of_stepped {s t : State} (h : Stepped s t) : Grows s t := by
  have hbegin : Grows s (beginTurn s) := grows_of_eq (beginTurn_trace s) (beginTurn_marks s)
  cases h with
  | idle => exact hbegin
  | cycle =>
    obtain ⟨_, _, _, _, _, hs⟩ := clkLocal_eq (beginTurn s)
    rw [hs]
    exact hbegin.trans (grows_of_eq rfl rfl)
  | acted hu _ _ =>
    exact (hbegin.trans (grows_of_acts hu)).trans ⟨List.prefix_rfl, List.prefix_rfl, List.prefix_append _ _⟩

/-- Settles O13: every effect and every end of a step adds at the end. -/
theorem traceAndMarksOnlyGrow : Obligations.TraceAndMarksOnlyGrow := by
  intro s t h
  obtain ⟨⟨evs, htrace⟩, ⟨rs, hrefused⟩, ⟨fs, hfaulted⟩⟩ := grows_of_stepped (step_stepped h)
  exact ⟨⟨evs, htrace.symm⟩, ⟨rs, hrefused.symm⟩, ⟨fs, hfaulted.symm⟩⟩

/-! ### The flush hold (43_i2c_fsm.md R452) -/

/-- What a data phase does to TXQ and the flush hold: it keeps both, or begins the hold with TXQ empty. -/
theorem flush_of_dataOutcome {c : Cmd} {s u : State} {es : List BusEvent} (h : DataOutcome c s es u) :
    u.ctrl.txq = s.ctrl.txq ∧ u.ctrl.flushHold = s.ctrl.flushHold ∨
    u.ctrl.txq = [] ∧ u.ctrl.flushHold = true := by
  cases h with
  | sent | got => exact .inl ⟨rfl, rfl⟩
  | refused | lost => exact .inr ⟨rfl, rfl⟩

/-- What S_XFER does to TXQ and the flush hold. -/
theorem flush_of_xferOutcome {c : Cmd} {s u : State} {es : List BusEvent} (h : XferOutcome c s es u) :
    u.ctrl.txq = s.ctrl.txq ∧ u.ctrl.flushHold = s.ctrl.flushHold ∨
    u.ctrl.txq = [] ∧ u.ctrl.flushHold = true := by
  cases h with
  | goesOn _ h | addressed _ _ h =>
    have hdata := flush_of_dataOutcome h
    exact hdata
  | refused | lost => exact .inr ⟨rfl, rfl⟩

/-- Settles O15: a push needs the hold to be over, and the other effects on TXQ empty it. -/
theorem flushHoldEndsOnlyByClear : Obligations.FlushHoldEndsOnlyByClear := by
  intro i s t h hhold hempty
  have kept {u : State} (htxq : u.ctrl.txq = s.ctrl.txq) (hflush : u.ctrl.flushHold = s.ctrl.flushHold) :
      u.ctrl.txq = [] ∧ (u.ctrl.flushHold = false →
        i = .rdIcClrTxAbrt ∨ i = .rdIcClrIntr ∨ ∃ op v, i = .wrResetsReset op v) :=
    ⟨htxq.trans hempty, fun hoff => Bool.noConfusion (hoff.symm.trans (hflush.trans hhold))⟩
  cases exec_effect h with
  | stays | refused | answered | cleared | underflowed | popped | overflowed | configured | enables | watchdog | pin
  | pads | sio => exact kept rfl rfl
  | abortCleared v k c _ _ hi => exact ⟨hempty, fun _ => hi.imp id .inl⟩
  | pushed _ _ _ hoff => cases hoff.symm.trans hhold
  | disables => exact ⟨rfl, fun hoff => Bool.noConfusion (hoff.symm.trans hhold)⟩
  | @resets x op v hi =>
    refine ⟨?_, fun _ => .inr (.inr ⟨op, v, hi⟩)⟩
    rw [writeResets_eq]
    dsimp only
    split
    · rfl
    · exact hempty
  | command _ _ hx =>
    obtain ⟨htxq, hflush⟩ | ⟨htxq, hflush⟩ := flush_of_xferOutcome hx
    · exact kept htxq hflush
    · exact ⟨htxq, fun hoff => Bool.noConfusion (hoff.symm.trans hflush)⟩

/-! ### The latched bits (42_i2c_data_status.md R380) -/

/-- The latched bits a data phase can set. -/
theorem raw_of_dataOutcome {c : Cmd} {s u : State} {es : List BusEvent} (h : DataOutcome c s es u) :
    ∃ lost abrt stop start, u.ctrl.raw =
      { s.ctrl.raw with rxOver := lost, txAbrt := abrt, stopDet := stop, startDet := start } := by
  cases h <;> exact ⟨_, _, _, _, rfl⟩

/-- The latched bits a command can set. -/
theorem raw_of_xferOutcome {c : Cmd} {s u : State} {es : List BusEvent} (h : XferOutcome c s es u) :
    ∃ lost abrt stop start, u.ctrl.raw =
      { s.ctrl.raw with rxOver := lost, txAbrt := abrt, stopDet := stop, startDet := start } := by
  cases h with
  | goesOn _ h | addressed _ _ h =>
    obtain ⟨_, _, _, _, hraw⟩ := raw_of_dataOutcome h
    exact ⟨_, _, _, _, hraw⟩
  | refused | lost => exact ⟨_, _, _, _, rfl⟩

/-- The causes of the latched bits, for one instruction. -/
def RisesByCause (i : Instr) (act : Bool) (r q : RawBits) : Prop :=
  (r.rxUnder = false → q.rxUnder = true → i = .rdIcDataCmd) ∧
  (r.txOver = false → q.txOver = true → ∃ v, i = .wrIcDataCmd v) ∧
  (r.rxOver = false → q.rxOver = true → ∃ c, i = instrOfCmd c) ∧
  (r.txAbrt = false → q.txAbrt = true → ∃ c, i = instrOfCmd c) ∧
  (r.stopDet = false → q.stopDet = true → ∃ c, i = instrOfCmd c) ∧
  (r.startDet = false → q.startDet = true → ∃ c, i = instrOfCmd c) ∧
  (r.activity = false → act = false → q.activity = false) ∧
  (r.rdReq = false → q.rdReq = false) ∧ (r.rxDone = false → q.rxDone = false) ∧
  (r.genCall = false → q.genCall = false) ∧ (r.restartDet = false → q.restartDet = false)

/-- A bit that is set only where it was set does not rise. -/
theorem not_rises {a b : Bool} (h : b = true → a = true) {P : Prop} (ha : a = false) (hb : b = true) : P :=
  Bool.noConfusion (ha.symm.trans (h hb))

theorem stays_false {a b : Bool} (h : b = true → a = true) (ha : a = false) : b = false :=
  eq_false_of_ne_true fun hb => Bool.noConfusion (ha.symm.trans (h hb))

/-- Where nothing but a clear of bits happens, nothing rises. -/
theorem risesByCause_of_cleared {i : Instr} {act : Bool} {r q : RawBits} (h : Cleared act r q) :
    RisesByCause i act r q := by
  refine ⟨not_rises h.rxUnder, not_rises h.txOver, not_rises h.rxOver, not_rises h.txAbrt, not_rises h.stopDet,
    not_rises h.startDet, fun hr hact => eq_false_of_ne_true fun hq => ?_, stays_false h.rdReq,
    stays_false h.rxDone, stays_false h.genCall, stays_false h.restartDet⟩
  obtain h | h := h.activity hq
  · cases hr.symm.trans h
  · cases hact.symm.trans h

/-- Settles O16: each bit that an effect sets is its instruction's. -/
theorem rawBitsSetOnlyByTheirCauses : Obligations.RawBitsSetOnlyByTheirCauses := by
  intro i s t h
  change RisesByCause i (mstActivity s) s.ctrl.raw t.ctrl.raw
  have same : RisesByCause i (mstActivity s) s.ctrl.raw s.ctrl.raw := risesByCause_of_cleared (.refl _ _)
  have none : RisesByCause i (mstActivity s) s.ctrl.raw RawBits.none :=
    risesByCause_of_cleared ⟨nofun, nofun, nofun, nofun, nofun, nofun, nofun, nofun, nofun, nofun, nofun⟩
  have ⟨hunder, hover, hrover, habrt, hstop, hstart, hact, hrest⟩ := same
  cases exec_effect h with
  | stays | refused | answered | popped | pushed | configured | enables | watchdog | pin | pads | sio => exact same
  | cleared v k _ hr => exact risesByCause_of_cleared hr
  | abortCleared v k c _ hr => exact risesByCause_of_cleared hr
  | underflowed v k _ hi => exact ⟨fun _ _ => hi, hover, hrover, habrt, hstop, hstart, hact, hrest⟩
  | @overflowed v _ hi =>
    exact ⟨hunder, fun _ _ => ⟨v, hi⟩, hrover, habrt, hstop, hstart, hact, hrest⟩
  | disables =>
    exact risesByCause_of_cleared { Cleared.refl (mstActivity s) s.ctrl.raw with
      rxUnder := nofun, rxOver := nofun, txOver := nofun, activity := nofun }
  | resets x =>
    rw [writeResets_eq]
    dsimp only
    split
    · exact none
    · exact same
  | @command c _ _ hi hen hx =>
    obtain ⟨_, _, _, _, hraw⟩ := raw_of_xferOutcome hx
    obtain ⟨-, -, -, hshift, -⟩ := (xferEnabled_iff c s).mp hen
    have hbusy : mstActivity s = true := by rw [mstActivity, hshift]; exact Bool.or_true _
    rw [RisesByCause, show (emitAll _ _).ctrl.raw = _ from hraw]
    exact ⟨hunder, hover, fun _ _ => ⟨c, hi⟩, fun _ _ => ⟨c, hi⟩, fun _ _ => ⟨c, hi⟩, fun _ _ => ⟨c, hi⟩,
      fun _ hidle => Bool.noConfusion (hidle.symm.trans hbusy), id, id, id, id⟩

end Sys2Proof.Proofs.Steps
end

section
/-! The frame grammar of the bus trace (30_encoding.md R174): what one command's events read, and every step keeps. -/

namespace Sys2Proof.Proofs.Frames

open Sys2Proof Sys2Proof.Machine Sys2Proof.Safety Sys2Proof.Laws Sys2Proof.Proofs.Transfer Sys2Proof.Proofs.Effects
  Sys2Proof.Proofs.Steps

/-- The position that a controller state stands for. -/
def positionOf (c : Ctrl) : FramePos :=
  if c.owned then (match c.dir with | .write => .writing | .read => .ackDue) else .free

/-- The frame grammar's claim, as its two parts. -/
theorem frameOk_iff (s : State) : frameOk s = true ↔ framePos s = some (positionOf s.ctrl) ∧
    s.ctrl.rxAckPending = (s.ctrl.owned && s.ctrl.dir == .read) := by
  unfold frameOk positionOf
  rw [Bool.and_eq_true, beq_iff_eq, beq_iff_eq] <;> exact Iff.rfl

/-- What the frame grammar reads of a state. -/
structure SameFrame (s t : State) : Prop where
  trace : t.trace = s.trace
  owned : t.ctrl.owned = s.ctrl.owned
  dir : t.ctrl.dir = s.ctrl.dir
  pending : t.ctrl.rxAckPending = s.ctrl.rxAckPending

theorem frameOk_of_sameFrame {s t : State} (h : SameFrame s t) (hs : frameOk s = true) : frameOk t = true := by
  rw [frameOk, framePos, h.trace, h.owned, h.dir, h.pending]
  exact hs

/-- A trace read on from where another ends. -/
theorem frameRun_append (p : FramePos) (es fs : List BusEvent) :
    frameRun p (es ++ fs) = (frameRun p es).bind (fun q => frameRun q fs) := by
  induction es generalizing p with
  | nil => rfl
  | cons e rest ih =>
    simp only [List.cons_append, frameRun, ih]
    cases frameNext p e <;> rfl

/-- The position after more events. -/
theorem framePos_append {s t : State} {es : List BusEvent} {b : Bool} {p : FramePos}
    (ht : t.trace = s.trace ++ es.map (fun e => ⟨e, b⟩)) (hs : framePos s = some p) :
    framePos t = frameRun p es := by
  have hes : (es.map fun e => (⟨e, b⟩ : TraceEntry)).map (fun e => e.event) = es := by
    rw [List.map_map]
    exact List.map_id es
  rw [framePos] at hs
  rw [framePos, ht, List.map_append, hes, frameRun_append, hs]
  rfl

/-! ### One command's events -/

/-- The position from which a data phase in the direction of a command starts. -/
def DataStart (c : Cmd) (p : FramePos) : Prop :=
  p = .addressed ∨ p = (match cmdDir c with | .write => .writing | .read => .reading)

/-- A data phase takes the grammar to the position its outcome stands for. -/
theorem frame_of_dataOutcome {c : Cmd} {s u : State} {es : List BusEvent} {p : FramePos}
    (h : DataOutcome c s es u) (hp : DataStart c p) (hown : s.ctrl.owned = true)
    (hdir : s.ctrl.dir = cmdDir c) (hpend : s.ctrl.rxAckPending = false) :
    frameRun p es = some (positionOf u.ctrl) ∧
      u.ctrl.rxAckPending = (u.ctrl.owned && u.ctrl.dir == .read) := by
  cases h with
  | sent hcmd =>
    have hwrite : cmdDir c = .write := by rw [cmdDir, hcmd]; rfl
    rw [DataStart, hwrite] at hp
    simp only [finished, tookAnswer, finishEvents, positionOf, hown, hdir, hpend, hwrite]
    obtain rfl | rfl := hp <;> cases c.stop <;> exact ⟨rfl, rfl⟩
  | refused hcmd | lost hcmd =>
    have hwrite : cmdDir c = .write := by rw [cmdDir, hcmd]; rfl
    rw [DataStart, hwrite] at hp
    obtain rfl | rfl := hp <;> exact ⟨rfl, rfl⟩
  | got hcmd =>
    have hread : cmdDir c = .read := by rw [cmdDir, hcmd]; rfl
    rw [DataStart, hread] at hp
    simp only [finished, received, tookByte, finishEvents, positionOf, hown, hdir, hread]
    obtain rfl | rfl := hp <;> cases c.stop <;> exact ⟨rfl, rfl⟩

/-- The opening takes the grammar to the address byte, or to the next data byte in the same direction. -/
theorem frame_of_opening {c : Cmd} {s : State}
    (hpend : s.ctrl.rxAckPending = (s.ctrl.owned && s.ctrl.dir == .read)) :
    (opensAddress c s = true → frameRun (positionOf s.ctrl) (openEvents c s) = some .addressDue) ∧
    (opensAddress c s = false → s.ctrl.owned = true ∧ s.ctrl.dir = cmdDir c ∧
      ∃ p, DataStart c p ∧ frameRun (positionOf s.ctrl) (openEvents c s) = some p) := by
  cases hown : s.ctrl.owned with
  | false =>
    refine ⟨fun _ => ?_, fun h => ?_⟩
    · rw [positionOf, openEvents, hown]
      rfl
    · rw [opensAddress, hown] at h
      cases h
  | true =>
    rw [hown, Bool.true_and] at hpend
    have hopens : opensAddress c s = (c.restart || decide (cmdDir c ≠ s.ctrl.dir)) := by
      rw [opensAddress, hown]
      rfl
    refine ⟨fun h => ?_, fun h => ⟨rfl, ?_⟩⟩
    · rw [positionOf, openEvents, hown, if_pos rfl, if_pos rfl, h, if_pos rfl, ackEvents, hpend, restartEvents]
      cases hdir : s.ctrl.dir with
      | write => cases s.i2c.con.restartEn <;> rfl
      | read =>
        have hno : (c.cmd && !c.restart && decide (Dir.read = Dir.read)) = false := by
          rw [hopens, hdir, cmdDir] at h
          revert h
          cases c.cmd <;> cases c.restart <;> decide
        rw [hno]
        cases s.i2c.con.restartEn <;> rfl
    · rw [hopens, Bool.or_eq_false_iff, decide_eq_false_iff_not, not_not] at h
      obtain ⟨hrestart, hsame⟩ := h
      refine ⟨hsame.symm, _, .inr rfl, ?_⟩
      have hno : opensAddress c s = false := by
        rw [hopens, hrestart, hsame]
        exact decide_eq_false (not_not.mpr rfl)
      rw [positionOf, openEvents, hown, if_pos rfl, if_pos rfl, hno, ackEvents, hpend, ← hsame, hrestart]
      unfold cmdDir
      cases c.cmd <;> rfl

/-- The events of a command take the grammar to the position its outcome stands for. -/
theorem frame_of_xferOutcome {c : Cmd} {s u : State} {es : List BusEvent} (h : XferOutcome c s es u)
    (hpend : s.ctrl.rxAckPending = (s.ctrl.owned && s.ctrl.dir == .read)) :
    frameRun (positionOf s.ctrl) es = some (positionOf u.ctrl) ∧
      u.ctrl.rxAckPending = (u.ctrl.owned && u.ctrl.dir == .read) := by
  obtain ⟨haddr, hon⟩ := frame_of_opening (c := c) hpend
  have hopened : (opened c s).ctrl.rxAckPending = false := by
    rw [opened, hpend]
    cases s.ctrl.owned
    · rfl
    · exact Bool.and_false _
  cases h with
  | goesOn hopen hdata =>
    obtain ⟨-, hdir, p, hp, hrun⟩ := hon hopen
    rw [frameRun_append, hrun]
    exact frame_of_dataOutcome hdata hp rfl hdir hopened
  | addressed hopen _ hdata =>
    rw [frameRun_append, haddr hopen]
    have hend := frame_of_dataOutcome hdata (.inl rfl) rfl rfl hopened
    exact hend
  | refused hopen | lost hopen =>
    rw [frameRun_append, haddr hopen]
    exact ⟨rfl, rfl⟩

/-! ### Every step -/

/-- An instruction keeps the frame grammar, but for a reset of a held bus. -/
theorem frameOk_of_effect {i : Instr} {s t : State} (h : Effect i s t) (hs : frameOk s = true)
    (hreset : s.ctrl.owned = true → t.resets.reset.getLsbD 3 = s.resets.reset.getLsbD 3) : frameOk t = true := by
  cases h with
  | stays | refused | answered | cleared | abortCleared | underflowed | popped | overflowed | pushed | configured
  | disables | enables | watchdog | pin | pads | sio => exact frameOk_of_sameFrame ⟨rfl, rfl, rfl, rfl⟩ hs
  | resets x =>
    rw [writeResets_eq] at hreset ⊢
    cases hrise : x.getLsbD 3 && !s.resets.reset.getLsbD 3 with
    | false => exact frameOk_of_sameFrame ⟨rfl, rfl, rfl, rfl⟩ hs
    | true =>
      have hfree : s.ctrl.owned = false := by
        refine eq_false_of_ne_true fun hown => ?_
        have hsame : x.getLsbD 3 = s.resets.reset.getLsbD 3 := hreset hown
        rw [hsame, Bool.and_not_self] at hrise
        cases hrise
      obtain ⟨hpos, -⟩ := (frameOk_iff s).mp hs
      rw [positionOf, hfree] at hpos
      exact (frameOk_iff _).mpr ⟨hpos, rfl⟩
  | command _ _ hx =>
    obtain ⟨hpos, hpend⟩ := (frameOk_iff s).mp hs
    obtain ⟨hrun, hpend'⟩ := frame_of_xferOutcome hx hpend
    rw [Commands.emitAll_of_kept (Commands.kept_of_xferOutcome hx)]
    exact (frameOk_iff _).mpr ⟨(framePos_append rfl hpos).trans hrun, hpend'⟩

/-- A user abort ends the transfer that is open, and no other. -/
theorem frameOk_userAbort {s : State} (hs : frameOk s = true) : frameOk (userAbort s) = true := by
  obtain ⟨hpos, hpend⟩ := (frameOk_iff s).mp hs
  rw [I2cFsm.userAbort_eq]
  refine (frameOk_iff _).mpr ⟨(framePos_append rfl hpos).trans ?_, rfl⟩
  rw [I2cFsm.abortEvents, hpend, positionOf]
  cases s.ctrl.owned <;> cases s.ctrl.dir <;> rfl

/-- BUSENV begins and ends another master's transfer only between the controller's. -/
theorem frameOk_envEffect {s : State} {e : EnvStep} (he : envEnabled e s = true) (hs : frameOk s = true) :
    frameOk (envEffect e s) = true := by
  obtain ⟨hpos, hpend⟩ := (frameOk_iff s).mp hs
  cases e with
  | eStart =>
    rw [Turns.envEffect_eStart]
    simp only [envEnabled, Bool.and_eq_true, Bool.not_eq_true'] at he
    obtain ⟨⟨⟨hfree, -⟩, -⟩, -⟩ := he
    refine (frameOk_iff _).mpr ⟨(framePos_append (es := [.envStart]) rfl hpos).trans ?_, hpend⟩
    simp only [positionOf, hfree]
    rfl
  | eStop =>
    rw [Turns.envEffect_eStop]
    simp only [envEnabled, Bool.and_eq_true, Bool.not_eq_true'] at he
    obtain ⟨-, hfree⟩ := he
    refine (frameOk_iff _).mpr ⟨(framePos_append (es := [.envStop]) rfl hpos).trans ?_, hpend⟩
    simp only [positionOf, hfree]
    rfl
  | eSclLow | eSclFree | eSdaLow | eSdaFree => exact frameOk_of_sameFrame ⟨rfl, rfl, rfl, rfl⟩ hs

/-- Settles O12: every effect of a turn takes the grammar to the position of the state it leaves. -/
theorem stepKeepsFrameGrammar : Obligations.StepKeepsFrameGrammar := by
  intro s t hs hreset h
  have hbegin : frameOk (beginTurn s) = true := frameOk_of_sameFrame
    ⟨beginTurn_trace s, by rw [beginTurn_ctrl], by rw [beginTurn_ctrl], by rw [beginTurn_ctrl]⟩ hs
  cases step_stepped h with
  | idle => exact hbegin
  | cycle =>
    obtain ⟨_, _, _, _, _, hc⟩ := clkLocal_eq (beginTurn s)
    rw [hc]
    exact frameOk_of_sameFrame ⟨rfl, rfl, rfl, rfl⟩ hbegin
  | @acted u _ _ _ _ hu =>
    refine frameOk_of_sameFrame (s := u) ⟨rfl, rfl, rfl, rfl⟩ ?_
    cases hu with
    | ran he =>
      refine frameOk_of_effect he hbegin fun hown => ?_
      rw [beginTurn_ctrl] at hown
      rw [beginTurn_resets]
      exact hreset hown
    | refused | host | takes | released => exact frameOk_of_sameFrame ⟨rfl, rfl, rfl, rfl⟩ hbegin
    | aborts => exact frameOk_userAbort hbegin
    | env he => exact frameOk_envEffect he hbegin

end Sys2Proof.Proofs.Frames
end

section
/-! The state invariant: its clauses, what keeps each, and every step. -/

namespace Sys2Proof.Proofs.StateInvariant

open Sys2Proof Sys2Proof.Machine Sys2Proof.Safety Sys2Proof.Laws Sys2Proof.Proofs.Transfer Sys2Proof.Proofs.Effects
  Sys2Proof.Proofs.Steps

/-- The state invariant but for the controller's outputs, which the end of a step settles. -/
structure Core (s : State) : Prop where
  config : configLegal s.i2c = true
  txqBound : s.ctrl.txq.length ≤ 16
  rxqBound : s.ctrl.rxq.length ≤ 16
  enable : s.i2c.enable.enable = s.ctrl.icEn
  disabled : s.ctrl.icEn = false → s.ctrl.txq = [] ∧ s.ctrl.rxq = [] ∧ s.ctrl.owned = false ∧ s.ctrl.shift = none ∧
    s.i2c.enable.abort = false
  flush : s.ctrl.flushHold = true → s.ctrl.txq = [] ∧ s.ctrl.shift = none ∧ s.ctrl.owned = false
  owner : s.ctrl.owned = true → s.wires.otherBusy = false
  pending : s.ctrl.owned = false → s.ctrl.rxAckPending = false
  slave : s.ctrl.raw.rdReq = false ∧ s.ctrl.raw.rxDone = false ∧ s.ctrl.raw.genCall = false ∧
    s.ctrl.raw.restartDet = false
  causes : s.i2c.abrtSource &&& ~~~0x11009#17 = 0#17
  released : s.resets.reset &&& s.resets.done = 0#25
  heldI2c : s.resets.done.getLsbD 3 = false → s.i2c = I2cRegs.reset ∧ s.ctrl = Ctrl.reset
  heldIo : s.resets.done.getLsbD 5 = false → s.io = IoBank.reset
  heldPads : s.resets.done.getLsbD 8 = false → s.pads = PadsBank.reset
  pins : pinsLegal s = true
  temps : tempsWf s.host.temps = true

/-- The outputs are those of 43_i2c_fsm.md R445. -/
structure Outputs (s : State) : Prop where
  scl : s.ctrl.sclOe = (s.ctrl.icEn && s.ctrl.owned)
  sda : s.ctrl.sdaOe = true → (s.ctrl.icEn && s.ctrl.owned) = true

/-- A boolean disjunction, as an implication. -/
theorem or_iff_of_false {a : Bool} {p : Prop} : (a = true ∨ p) ↔ (a = false → p) := by
  cases a <;> simp

/-- A boolean disjunction with a negation, as an implication. -/
theorem not_or_iff {a : Bool} {p : Prop} : (a = false ∨ p) ↔ (a = true → p) := by
  cases a <;> simp

theorem fifosBounded_iff (c : Ctrl) : fifosBounded c = true ↔ c.txq.length ≤ 16 ∧ c.rxq.length ≤ 16 := by
  rw [fifosBounded, Bool.and_eq_true, decide_eq_true_eq, decide_eq_true_eq]
  exact Iff.rfl

theorem enableAgrees_iff (s : State) : enableAgrees s = true ↔ s.i2c.enable.enable = s.ctrl.icEn ∧
    (s.ctrl.icEn = false → s.ctrl.txq = [] ∧ s.ctrl.rxq = [] ∧ s.ctrl.owned = false ∧ s.ctrl.shift = none ∧
      s.i2c.enable.abort = false) := by
  simp only [enableAgrees, Bool.and_eq_true, Bool.or_eq_true, Bool.not_eq_true', beq_iff_eq, List.isEmpty_iff,
    Option.isNone_iff_eq_none, or_iff_of_false, and_assoc]

theorem flushAgrees_iff (s : State) : flushAgrees s = true ↔
    (s.ctrl.flushHold = true → s.ctrl.txq = [] ∧ s.ctrl.shift = none ∧ s.ctrl.owned = false) := by
  simp only [flushAgrees, Bool.and_eq_true, Bool.or_eq_true, Bool.not_eq_true', List.isEmpty_iff,
    Option.isNone_iff_eq_none, not_or_iff, and_assoc]

theorem busAgrees_iff (s : State) : busAgrees s = true ↔ (s.ctrl.owned = true → s.wires.otherBusy = false) ∧
    (s.ctrl.owned = false → s.ctrl.rxAckPending = false) ∧ s.ctrl.sclOe = (s.ctrl.icEn && s.ctrl.owned) ∧
    (s.ctrl.sdaOe = true → (s.ctrl.icEn && s.ctrl.owned) = true) := by
  have hnand : (s.ctrl.owned && s.wires.otherBusy) = false ↔ (s.ctrl.owned = true → s.wires.otherBusy = false) := by
    rw [Bool.and_eq_false_iff, not_or_iff]
  rw [busAgrees, Bool.and_eq_true, Bool.and_eq_true, Bool.and_eq_true, Bool.not_eq_true', hnand, Bool.or_eq_true,
    or_iff_of_false, Bool.not_eq_true', beq_iff_eq, Bool.or_eq_true, Bool.not_eq_true', not_or_iff, and_assoc,
    and_assoc]

theorem scopeOnly_iff (s : State) : scopeOnly s = true ↔ (s.ctrl.raw.rdReq = false ∧ s.ctrl.raw.rxDone = false ∧
    s.ctrl.raw.genCall = false ∧ s.ctrl.raw.restartDet = false) ∧ s.i2c.abrtSource &&& ~~~0x11009#17 = 0#17 := by
  simp only [scopeOnly, Bool.and_eq_true, Bool.not_eq_true', beq_iff_eq, and_assoc]

theorem resetsAgree_iff (s : State) : resetsAgree s = true ↔ s.resets.reset &&& s.resets.done = 0#25 ∧
    (s.resets.done.getLsbD 3 = false → s.i2c = I2cRegs.reset ∧ s.ctrl = Ctrl.reset) ∧
    (s.resets.done.getLsbD 5 = false → s.io = IoBank.reset) ∧
    (s.resets.done.getLsbD 8 = false → s.pads = PadsBank.reset) := by
  simp only [resetsAgree, Bool.and_eq_true, Bool.or_eq_true, beq_iff_eq, or_iff_of_false, and_assoc, i2cBit, ioBit,
    padsBit]

/-- The invariant, clause by clause. -/
theorem inv_iff (s : State) : inv s = true ↔ Core s ∧ Outputs s := by
  rw [inv, Bool.and_eq_true, Bool.and_eq_true, Bool.and_eq_true, Bool.and_eq_true, Bool.and_eq_true,
    Bool.and_eq_true, Bool.and_eq_true, Bool.and_eq_true, fifosBounded_iff, enableAgrees_iff, flushAgrees_iff,
    busAgrees_iff, scopeOnly_iff, resetsAgree_iff]
  constructor
  · rintro ⟨⟨⟨⟨⟨⟨⟨⟨hconfig, htxq, hrxq⟩, hen, hdis⟩, hflush⟩, hown, hpend, hscl, hsda⟩, hslave, hcause⟩, hrel, hi2c,
      hio, hpads⟩, hpins⟩, htemps⟩
    exact ⟨⟨hconfig, htxq, hrxq, hen, hdis, hflush, hown, hpend, hslave, hcause, hrel, hi2c, hio, hpads, hpins,
      htemps⟩, hscl, hsda⟩
  · rintro ⟨h, hscl, hsda⟩
    exact ⟨⟨⟨⟨⟨⟨⟨⟨h.config, h.txqBound, h.rxqBound⟩, h.enable, h.disabled⟩, h.flush⟩, h.owner, h.pending, hscl, hsda⟩,
      h.slave, h.causes⟩, h.released, h.heldI2c, h.heldIo, h.heldPads⟩, h.pins⟩, h.temps⟩

/-! ### What keeps the clauses of I2C0 -/

/-- The controller is enabled only out of reset. -/
theorem done_of_enabled {s : State} (h : Core s) (hon : s.ctrl.icEn = true) : s.resets.done.getLsbD 3 = true := by
  refine eq_true_of_ne_false fun hheld => ?_
  rw [(h.heldI2c hheld).2] at hon
  cases hon

/-- A cause in scope keeps the cause bits in scope. -/
theorem causes_or {x : BitVec 17} (src : AbortSource) (h : x &&& ~~~0x11009#17 = 0#17) :
    (x ||| (1#17 <<< src.code)) &&& ~~~0x11009#17 = 0#17 := by
  have hsrc : (1#17 <<< src.code) &&& ~~~0x11009#17 = 0#17 := by cases src <;> rfl
  rw [BitVec.and_comm, BitVec.and_or_distrib_left, BitVec.and_comm, h, BitVec.and_comm, hsrc]
  rfl

/-- What the invariant says of a controller that may perform a command. -/
structure Performing (s : State) : Prop where
  config : configLegal s.i2c = true
  txqBound : s.ctrl.txq.length ≤ 16
  rxqBound : s.ctrl.rxq.length ≤ 16
  on : s.ctrl.icEn = true
  enable : s.i2c.enable.enable = true
  flowing : s.ctrl.flushHold = false
  alone : s.wires.otherBusy = false
  causes : s.i2c.abrtSource &&& ~~~0x11009#17 = 0#17

/-- What the invariant says of the controller after a command. -/
structure Performed (s : State) : Prop where
  config : configLegal s.i2c = true
  txqBound : s.ctrl.txq.length ≤ 16
  rxqBound : s.ctrl.rxq.length ≤ 16
  on : s.ctrl.icEn = true
  enable : s.i2c.enable.enable = true
  flush : s.ctrl.flushHold = true → s.ctrl.txq = [] ∧ s.ctrl.shift = none ∧ s.ctrl.owned = false
  owner : s.ctrl.owned = true → s.wires.otherBusy = false
  pending : s.ctrl.owned = false → s.ctrl.rxAckPending = false
  causes : s.i2c.abrtSource &&& ~~~0x11009#17 = 0#17

theorem performing_of_xferEnabled {c : Cmd} {s : State} (h : Core s) (hen : xferEnabled c s = true) :
    Performing s := by
  obtain ⟨hon, -, -, hshift, -, hbus, -⟩ := (xferEnabled_iff c s).mp hen
  have hflow : s.ctrl.flushHold = false := by
    refine eq_false_of_ne_true fun hhold => ?_
    obtain ⟨-, hnone, -⟩ := h.flush hhold
    cases hshift.symm.trans hnone
  have halone : s.wires.otherBusy = false := hbus.elim h.owner fun ⟨hfree, _⟩ => hfree
  exact ⟨h.config, h.txqBound, h.rxqBound, hon, h.enable.trans hon, hflow, halone, h.causes⟩

/-- An abort empties TXQ, takes the hold and gives up the bus. -/
theorem performed_aborted {s : State} (h : Performing s) (src : AbortSource) (stop : Bool) :
    Performed (aborted src stop s) :=
  { config := h.config, txqBound := Nat.zero_le _, rxqBound := h.rxqBound, on := h.on, enable := h.enable,
    flush := fun _ => ⟨rfl, rfl, rfl⟩, owner := nofun, pending := fun _ => rfl, causes := causes_or src h.causes }

/-- The end of a command that completes leaves the bus held with its ACK slot, or neither. -/
theorem performed_finished {s : State} (h : Performing s) (hown : s.ctrl.owned = true) (c : Cmd) :
    Performed (finished c s) := by
  have hpend : (s.ctrl.owned && !c.stop) = false → (s.ctrl.rxAckPending && !c.stop) = false := fun hfree => by
    rw [hown, Bool.true_and] at hfree
    rw [hfree, Bool.and_false]
  exact { config := h.config, txqBound := h.txqBound, rxqBound := h.rxqBound, on := h.on, enable := h.enable,
          flush := fun hhold => Bool.noConfusion (h.flowing.symm.trans hhold), owner := fun _ => h.alone,
          pending := hpend, causes := h.causes }

/-- A received byte keeps RXQ within its depth. -/
theorem length_received_le {s : State} (d : Byte) (h : s.ctrl.rxq.length ≤ 16) :
    (received d s).ctrl.rxq.length ≤ 16 := by
  show (if s.ctrl.rxq.length < 16 then s.ctrl.rxq ++ [d] else s.ctrl.rxq).length ≤ 16
  split
  · rw [List.length_append, List.length_singleton]
    omega
  · exact h

theorem performed_of_dataOutcome {c : Cmd} {s u : State} {es : List BusEvent} (h : DataOutcome c s es u)
    (hs : Performing s) (hown : s.ctrl.owned = true) : Performed u := by
  cases h with
  | @sent l k => exact performed_finished (s := tookAnswer l k s) { hs with } hown c
  | @refused l k => exact performed_aborted (s := tookAnswer l k s) { hs with } _ _
  | @lost l k => exact performed_aborted (s := tookAnswer l k s) { hs with } _ _
  | @got d l k =>
    refine performed_finished (s := received d (tookByte l k s)) ?_ hown c
    exact { hs with rxqBound := length_received_le (s := tookByte l k s) d hs.rxqBound }

theorem performed_of_xferOutcome {c : Cmd} {s u : State} {es : List BusEvent} (h : XferOutcome c s es u)
    (hs : Performing s) : Performed u := by
  have hopened : Performing (opened c s) := { hs with }
  cases h with
  | goesOn _ hdata => exact performed_of_dataOutcome hdata hopened rfl
  | @addressed l k _ _ _ _ hdata =>
    have haddr : Performing (addressed c l k (opened c s)) := { hopened with }
    exact performed_of_dataOutcome hdata haddr rfl
  | @refused l k => exact performed_aborted (s := addressed c l k (opened c s)) { hopened with } _ _
  | @lost l k => exact performed_aborted (s := addressed c l k (opened c s)) { hopened with } _ _

/-! ### What keeps the clauses of RESETS and of the pins -/

/-- The clauses on a held block, after RESETS.RESET is written: a rising bit puts the block at its reset values, any
other leaves its RESET_DONE bit as it was. -/
theorem held_of_write {reset done x : BitVec 25} {k : Nat} (hk : k < 25) {α : Type} {r v : α}
    (h : done.getLsbD k = false → v = r)
    (hheld : (done &&& ~~~(x &&& ~~~reset)).getLsbD k = false) :
    (if x.getLsbD k && !reset.getLsbD k then r else v) = r := by
  split
  · rfl
  · rename_i hrise
    refine h ?_
    rw [BitVec.getLsbD_and, BitVec.getLsbD_not, BitVec.getLsbD_and, BitVec.getLsbD_not, decide_eq_true hk,
      Bool.true_and, Bool.true_and, eq_false_of_ne_true hrise, Bool.not_false, Bool.and_true] at hheld
    exact hheld

/-- After RESETS.RESET is written no RESET_DONE bit is 1 where its RESET bit is. -/
theorem released_of_write {reset done x : BitVec 25} (h : reset &&& done = 0#25) :
    x &&& (done &&& ~~~(x &&& ~~~reset)) = 0#25 := by
  refine BitVec.eq_of_getLsbD_eq fun k hk => ?_
  have hbit := congrArg (BitVec.getLsbD · k) h
  simp only [BitVec.getLsbD_and, BitVec.getLsbD_zero] at hbit
  simp only [BitVec.getLsbD_and, BitVec.getLsbD_not, BitVec.getLsbD_zero, decide_eq_true hk, Bool.true_and]
  revert hbit
  cases x.getLsbD k <;> cases done.getLsbD k <;> cases reset.getLsbD k <;> decide

/-- A release sets a RESET_DONE bit whose RESET bit is 0. -/
theorem released_of_release {reset done : BitVec 25} {i : Fin 25} (h : reset &&& done = 0#25)
    (hi : reset.getLsbD i = false) : reset &&& (done ||| (1#25 <<< i.val)) = 0#25 := by
  refine BitVec.eq_of_getLsbD_eq fun k hk => ?_
  have hbit := congrArg (BitVec.getLsbD · k) h
  simp only [BitVec.getLsbD_and, BitVec.getLsbD_zero] at hbit
  rw [BitVec.getLsbD_and, Turns.getLsbD_or_bit, BitVec.getLsbD_zero, Bool.and_or_distrib_left, hbit, Bool.false_or]
  by_cases hki : k = i.val
  · rw [hki, hi, Bool.false_and]
  · rw [beq_false_of_ne hki, Bool.and_false]

/-- The pins' clause, pin by pin. -/
theorem pinsLegal_iff (s : State) : pinsLegal s = true ↔ ∀ n < 30, funcselLegal (pinCtrlOf s n).funcsel n = true ∧
    ¬ ((pinCtrlOf s n).funcsel = 3#5 ∧ isI2c0Pin n = true ∧ otherPinSelects s n = true) := by
  simp only [pinsLegal, List.all_eq_true, List.mem_range, Bool.and_eq_true, Bool.not_eq_true', Config.nGpio,
    ← Bool.not_eq_true, beq_iff_eq, and_assoc]

/-- Another pin selects the signal of a pin. -/
theorem otherPinSelects_iff (s : State) (n : Nat) : otherPinSelects s n = true ↔
    ∃ m < 30, m ≠ n ∧ (pinCtrlOf s m).funcsel = 3#5 ∧ isI2c0Pin m = true ∧ m % 2 = n % 2 := by
  simp only [otherPinSelects, selectsI2c0, List.any_eq_true, List.mem_range, Bool.and_eq_true, bne_iff_ne, beq_iff_eq,
    Config.nGpio, and_assoc]

/-- A write of GPIOn_CTRL that R231 admits keeps the pins' clause: the pin written clashes with no other, and an
unwritten pin clashes with it only where it clashes with that pin. -/
theorem pinsLegal_setPinCtrl {s : State} {n : Nat} {c : PinCtrl} (h : pinsLegal s = true)
    (hlegal : funcselLegal c.funcsel n = true)
    (hclash : ¬ (c.funcsel = 3#5 ∧ isI2c0Pin n = true ∧ otherPinSelects s n = true)) :
    pinsLegal (setPinCtrl s n c) = true := by
  rw [pinsLegal_iff] at h ⊢
  intro m hm
  by_cases hmn : m = n
  · subst hmn
    rw [pinCtrlOf_setPinCtrl_same s m c hm]
    refine ⟨hlegal, fun ⟨hf, hp, ho⟩ => hclash ⟨hf, hp, ?_⟩⟩
    obtain ⟨k, hk, hkm, hsel⟩ := (otherPinSelects_iff _ m).mp ho
    rw [pinCtrlOf_setPinCtrl_other s m k c hkm] at hsel
    exact (otherPinSelects_iff s m).mpr ⟨k, hk, hkm, hsel⟩
  · rw [pinCtrlOf_setPinCtrl_other s n m c hmn]
    obtain ⟨hok, hno⟩ := h m hm
    refine ⟨hok, fun ⟨hf, hp, ho⟩ => ?_⟩
    obtain ⟨k, hk, hkm, hsel⟩ := (otherPinSelects_iff _ m).mp ho
    by_cases hkn : k = n
    · subst hkn
      rw [pinCtrlOf_setPinCtrl_same s k c hk] at hsel
      obtain ⟨hkf, hkp, hpar⟩ := hsel
      exact hclash ⟨hkf, hkp, (otherPinSelects_iff s k).mpr ⟨m, hm, hmn, hf, hp, hpar.symm⟩⟩
    · rw [pinCtrlOf_setPinCtrl_other s n k c hkn] at hsel
      exact hno ⟨hf, hp, (otherPinSelects_iff s m).mpr ⟨k, hk, hkm, hsel⟩⟩

/-! ### Every effect -/

/-- The clause on a held block has nothing to say while the block is out of reset. -/
theorem of_released {done : BitVec 25} {k : Nat} {p : Prop} (hdone : done.getLsbD k = true)
    (hheld : done.getLsbD k = false) : p := Bool.noConfusion (hdone.symm.trans hheld)

theorem slave_of_cleared {act : Bool} {r q : RawBits} (h : Cleared act r q)
    (hr : r.rdReq = false ∧ r.rxDone = false ∧ r.genCall = false ∧ r.restartDet = false) :
    q.rdReq = false ∧ q.rxDone = false ∧ q.genCall = false ∧ q.restartDet = false :=
  ⟨stays_false h.rdReq hr.1, stays_false h.rxDone hr.2.1, stays_false h.genCall hr.2.2.1,
    stays_false h.restartDet hr.2.2.2⟩

/-- The reset values of the pins are legal. -/
theorem pinsLegal_reset {s : State} (h : s.io = IoBank.reset) : pinsLegal s = true := by
  have hio : pinsLegal s = pinsLegal (State.launch 0) := by
    simp only [pinsLegal, pinCtrlOf_congr (t := State.launch 0) h, otherPinSelects_congr (t := State.launch 0) h]
  rw [hio]
  decide

theorem configLegal_reset : configLegal I2cRegs.reset = true := by decide

theorem causes_reset : I2cRegs.reset.abrtSource &&& ~~~0x11009#17 = 0#17 := by decide

theorem core_writeResets {s : State} (h : Core s) (x : BitVec 25) : Core (writeResets x s) := by
  rw [writeResets_eq]
  have hi2c : (s.resets.done &&& ~~~(x &&& ~~~s.resets.reset)).getLsbD 3 = false →
      (if x.getLsbD 3 && !s.resets.reset.getLsbD 3 then I2cRegs.reset else s.i2c) = I2cRegs.reset ∧
      (if x.getLsbD 3 && !s.resets.reset.getLsbD 3 then Ctrl.reset else s.ctrl) = Ctrl.reset := fun hheld =>
    ⟨held_of_write (by decide) (fun hd => (h.heldI2c hd).1) hheld,
      held_of_write (by decide) (fun hd => (h.heldI2c hd).2) hheld⟩
  have hio := held_of_write (x := x) (reset := s.resets.reset) (by decide) h.heldIo
  have hpads := held_of_write (x := x) (reset := s.resets.reset) (by decide) h.heldPads
  have hpins : pinsLegal (writeResets x s) = true := by
    rw [writeResets_eq]
    cases hrise : x.getLsbD 5 && !s.resets.reset.getLsbD 5
    · exact h.pins
    · exact pinsLegal_reset rfl
  rw [writeResets_eq] at hpins
  revert hi2c hpins
  cases x.getLsbD 3 && !s.resets.reset.getLsbD 3 with
  | false =>
    intro hi2c hpins
    exact { h with released := released_of_write h.released, heldI2c := hi2c, heldIo := hio, heldPads := hpads,
                   pins := hpins }
  | true =>
    intro hi2c hpins
    exact { config := configLegal_reset, txqBound := Nat.zero_le _, rxqBound := Nat.zero_le _, enable := rfl,
            disabled := fun _ => ⟨rfl, rfl, rfl, rfl, rfl⟩, flush := nofun, owner := nofun, pending := fun _ => rfl,
            slave := ⟨rfl, rfl, rfl, rfl⟩, causes := causes_reset, released := released_of_write h.released,
            heldI2c := hi2c, heldIo := hio, heldPads := hpads, pins := hpins, temps := h.temps }

theorem core_command {c : Cmd} {s u : State} {es : List BusEvent} (h : Core s) (hen : xferEnabled c s = true)
    (hx : XferOutcome c s es u) : Core (emitAll es u) := by
  have hs := performing_of_xferEnabled h hen
  have hu := performed_of_xferOutcome hx hs
  obtain ⟨-, hresets, hhost, hio, hpads⟩ := apart_of_xferOutcome hx
  obtain ⟨_, _, _, _, hraw⟩ := raw_of_xferOutcome hx
  have hdone : u.resets.done.getLsbD 3 = true := by rw [hresets]; exact done_of_enabled h hs.on
  have hpins : pinsLegal u = true := by
    simp only [pinsLegal, pinCtrlOf_congr hio, otherPinSelects_congr hio]
    exact h.pins
  exact
    { config := hu.config, txqBound := hu.txqBound, rxqBound := hu.rxqBound, enable := hu.enable.trans hu.on.symm,
      disabled := fun hoff => Bool.noConfusion (hu.on.symm.trans hoff), flush := hu.flush, owner := hu.owner,
      pending := hu.pending, slave := (congrArg (fun r => r.rdReq = false ∧ r.rxDone = false ∧ r.genCall = false ∧
        r.restartDet = false) hraw).mpr h.slave
      causes := hu.causes, released := (congrArg (fun r => r.reset &&& r.done = 0#25) hresets).mpr h.released,
      heldI2c := of_released hdone, heldIo := fun hheld => hio.trans (h.heldIo (hresets ▸ hheld)),
      heldPads := fun hheld => hpads.trans (h.heldPads (hresets ▸ hheld)), pins := hpins,
      temps := (congrArg (fun x => tempsWf x.temps = true) hhost).mpr h.temps }

theorem core_of_effect {i : Instr} {s t : State} (he : Effect i s t) (h : Core s) : Core t := by
  cases he with
  | stays => exact h
  | refused | answered | watchdog | sio => exact { h with }
  | cleared v k hdone hr =>
    exact { h with slave := slave_of_cleared hr h.slave, heldI2c := of_released hdone }
  | abortCleared v k c hdone hr =>
    exact { h with slave := slave_of_cleared hr h.slave, heldI2c := of_released hdone, flush := nofun,
                   causes := BitVec.zero_and }
  | underflowed v k hdone | overflowed hdone => exact { h with heldI2c := of_released hdone }
  | @popped v k b rest hdone hrxq =>
    have hbound := h.rxqBound
    rw [hrxq, List.length_cons] at hbound
    refine { h with rxqBound := Nat.le_of_succ_le hbound, heldI2c := of_released hdone, disabled := fun hoff => ?_ }
    obtain ⟨-, hempty, -⟩ := h.disabled hoff
    cases hrxq.symm.trans hempty
  | pushed c hdone hon hflush hlen =>
    have hbound : (s.ctrl.txq ++ [c]).length ≤ 16 := by
      have := h.txqBound
      rw [List.length_append, List.length_singleton]
      omega
    exact { h with txqBound := hbound, heldI2c := of_released hdone,
                   disabled := fun hoff => Bool.noConfusion (hon.symm.trans hoff),
                   flush := fun hhold => Bool.noConfusion (hflush.symm.trans hhold) }
  | configured hdone hlegal hen hsrc =>
    exact { h with config := hlegal h.config, enable := (congrArg IcEnable.enable hen).trans h.enable,
                   disabled := fun hoff => hen ▸ h.disabled hoff, causes := hsrc ▸ h.causes,
                   heldI2c := of_released hdone }
  | disables b hdone hidle =>
    rw [Bool.or_eq_false_iff, Bool.or_eq_false_iff] at hidle
    obtain ⟨⟨hfree, hshift⟩, habort⟩ := hidle
    have hnone := Option.isNone_iff_eq_none.mp (Option.isSome_eq_false_iff.mp hshift)
    exact { h with txqBound := Nat.zero_le _, rxqBound := Nat.zero_le _, enable := rfl,
                   disabled := fun _ => ⟨rfl, rfl, hfree, hnone, habort⟩
                   flush := fun hhold => ⟨rfl, (h.flush hhold).2⟩, heldI2c := of_released hdone }
  | enables e a b hdone hoff =>
    refine { h with enable := rfl, disabled := fun he => ?_, heldI2c := of_released hdone }
    obtain ⟨hwas, rfl⟩ := hoff he
    exact h.disabled hwas
  | resets x => exact core_writeResets h x
  | pin hdone hlegal hclash =>
    exact { h with heldIo := of_released hdone, pins := pinsLegal_setPinCtrl h.pins hlegal hclash }
  | pads p hdone => exact { h with heldPads := of_released hdone }
  | command _ hen hx => exact core_command h hen hx

/-! ### Every step -/

/-- A user abort takes the flush hold and gives up the bus. -/
theorem core_userAbort {s : State} (h : Core s) (hen : abortEnabled s = true) : Core (userAbort s) := by
  obtain ⟨hon, -, -⟩ := (I2cFsm.abortEnabled_iff s).mp hen
  have hdone := done_of_enabled h hon
  rw [I2cFsm.userAbort_eq]
  exact { h with
    txqBound := Nat.zero_le _, disabled := fun hoff => Bool.noConfusion (hon.symm.trans hoff),
    flush := fun _ => ⟨rfl, rfl, rfl⟩, owner := nofun, pending := fun _ => rfl,
    causes := causes_or .userAbort h.causes, heldI2c := of_released hdone }

/-- BUSENV takes the bus only where the controller does not own it. -/
theorem core_envEffect {s : State} {e : EnvStep} (h : Core s) (hen : envEnabled e s = true) :
    Core (envEffect e s) := by
  have held (r : RawBits) (hr : s.ctrl.icEn = false → r = s.ctrl.raw)
      (hheld : s.resets.done.getLsbD 3 = false) :
      s.i2c = I2cRegs.reset ∧ { s.ctrl with raw := r } = Ctrl.reset := by
    obtain ⟨hi2c, hctrl⟩ := h.heldI2c hheld
    have hoff : s.ctrl.icEn = false := by rw [hctrl]; rfl
    rw [hr hoff]
    exact ⟨hi2c, hctrl⟩
  cases e with
  | eStart =>
    simp only [envEnabled, Bool.and_eq_true, Bool.not_eq_true'] at hen
    obtain ⟨⟨⟨hfree, -⟩, -⟩, -⟩ := hen
    rw [Turns.envEffect_eStart]
    exact { h with owner := fun hown => Bool.noConfusion (hfree.symm.trans hown),
                   heldI2c := held _ fun hoff => by rw [hoff, Bool.false_or] }
  | eStop =>
    rw [Turns.envEffect_eStop]
    exact { h with owner := fun _ => rfl, heldI2c := held _ fun hoff => by rw [hoff, Bool.false_or] }
  | eSclLow | eSclFree | eSdaLow | eSdaFree => exact { h with }

theorem core_of_acts {s u : State} (hu : Acts s u) (h : Core s) : Core u := by
  cases hu with
  | ran he => exact core_of_effect he h
  | refused => exact { h with }
  | host hl =>
    obtain rfl | ⟨k, v, rfl⟩ := hl
    · exact { h with }
    · exact { h with temps := tempSet_wf _ k v h.temps }
  | aborts hen => exact core_userAbort h hen
  | @takes c rest hen hc =>
    obtain ⟨hon, -, -, hflow, -, -, -⟩ := (I2cFsm.popEnabled_iff s).mp hen
    have hdone := done_of_enabled h hon
    have hbound := h.txqBound
    rw [hc, List.length_cons] at hbound
    exact { h with
      txqBound := Nat.le_of_succ_le hbound, disabled := fun hoff => Bool.noConfusion (hon.symm.trans hoff),
      flush := fun hhold => Bool.noConfusion (hflow.symm.trans hhold),
      heldI2c := of_released hdone }
  | env hen => exact core_envEffect h hen
  | @released i hen =>
    rw [releaseEnabled, Bool.and_eq_true, Bool.not_eq_true', Bool.not_eq_true'] at hen
    have grown {k : Nat} (hheld : (s.resets.done ||| (1#25 <<< i.val)).getLsbD k = false) :
        s.resets.done.getLsbD k = false := by
      rw [BitVec.getLsbD_or, Bool.or_eq_false_iff] at hheld
      exact hheld.1
    exact { h with
      released := released_of_release h.released hen.1, heldI2c := fun hheld => h.heldI2c (grown hheld),
      heldIo := fun hheld => h.heldIo (grown hheld), heldPads := fun hheld => h.heldPads (grown hheld) }

/-- The end of a step settles the outputs, and leaves a controller at its reset values there. -/
theorem core_ended {u : State} {p : Nat} {l : List (Nat × Word)} {b : Bool} {fs : List Fault} (h : Core u)
    (hl : l = u.host.temps ∨ ∃ k v, l = tempSet u.host.temps k v)
    (hb : b = true → (u.ctrl.icEn && u.ctrl.owned) = true) : Core (ended p l b fs u) := by
  have htemps : tempsWf l = true := by
    obtain rfl | ⟨k, v, rfl⟩ := hl
    · exact h.temps
    · exact tempSet_wf _ k v h.temps
  have held (hheld : u.resets.done.getLsbD 3 = false) : u.i2c = I2cRegs.reset ∧
      { u.ctrl with sclOe := u.ctrl.icEn && u.ctrl.owned, sdaOe := b } = Ctrl.reset := by
    obtain ⟨hi2c, hctrl⟩ := h.heldI2c hheld
    rw [hctrl] at hb ⊢
    have hoff : b = false := eq_false_of_ne_true fun hon => Bool.noConfusion (hb hon)
    rw [hoff]
    exact ⟨hi2c, rfl⟩
  exact { h with heldI2c := held, temps := htemps }

/-- A clock cycle keeps the clauses, and leaves a controller at its reset values there. -/
theorem core_clkLocal {s : State} (h : Core s) : Core (clkLocal s) := by
  have held (hheld : s.resets.done.getLsbD 3 = false) : s.i2c = I2cRegs.reset ∧ (clkLocal s).ctrl = Ctrl.reset := by
    obtain ⟨hi2c, hctrl⟩ := h.heldI2c hheld
    exact ⟨hi2c, clkLocal_reset hctrl⟩
  obtain ⟨_, _, _, _, _, hs⟩ := clkLocal_eq s
  rw [hs] at held ⊢
  exact { h with heldI2c := held }

theorem core_beginTurn {s : State} (h : Core s) : Core (beginTurn s) := by
  obtain ⟨_, _, hs⟩ := beginTurn_eq s
  rw [hs]
  exact { h with }

/-- Settles O10: each clause is kept by what the agent does, and the outputs are settled as the step ends. -/
theorem stepKeepsInvariant : Obligations.StepKeepsInvariant := by
  intro s t hinv h
  obtain ⟨hcore, hout⟩ := (inv_iff s).mp hinv
  have hbegin := core_beginTurn hcore
  have hout' : Outputs (beginTurn s) := by
    constructor <;> rw [beginTurn_ctrl]
    · exact hout.scl
    · exact hout.sda
  refine (inv_iff t).mpr ?_
  cases step_stepped h with
  | idle => exact ⟨hbegin, hout'⟩
  | cycle =>
    refine ⟨core_clkLocal hbegin, ?_⟩
    obtain ⟨_, _, _, _, _, hs⟩ := clkLocal_eq (beginTurn s)
    rw [hs]
    exact ⟨hout'.scl, hout'.sda⟩
  | acted hu hl hb => exact ⟨core_ended (core_of_acts hu hbegin) hl hb, rfl, hb⟩

end Sys2Proof.Proofs.StateInvariant
end

section
/-! The registers' words, field by field (10_state.md R33 to R72): where each field stands in the word a read shows,
and what a read of the word and a write through an alias make of it (20_memory.md R102, R106). -/

namespace Sys2Proof.Proofs.Fields

open Sys2Proof Sys2Proof.Machine Sys2Proof.Safety Sys2Proof.Laws

/-! ### Fields of a word -/

/-- The bits of `x` from bit `lo` up are those of `f`. -/
def HasField (x : BitVec n) (lo : Nat) (f : BitVec w) : Prop := ∀ k, k < w → x.getLsbD (lo + k) = f.getLsbD k

theorem getLsbD_place_below {lo i : Nat} {f : BitVec k} (h : i < lo) : (place lo f : BitVec w).getLsbD i = false := by
  rw [getLsbD_place, decide_eq_false (by omega : ¬ lo ≤ i), Bool.and_false, Bool.false_and]

theorem getLsbD_place_above {lo i : Nat} {f : BitVec k} (h : lo + k ≤ i) :
    (place lo f : BitVec w).getLsbD i = false := by
  rw [getLsbD_place, BitVec.getLsbD_of_ge f (i - lo) (by omega), Bool.and_false]

theorem getLsbD_place_at {lo j : Nat} {f : BitVec k} (h : lo + j < w) :
    (place lo f : BitVec w).getLsbD (lo + j) = f.getLsbD j := by
  rw [getLsbD_place, decide_eq_true h, decide_eq_true (by omega : lo ≤ lo + j), Nat.add_sub_cancel_left]
  rfl

theorem getLsbD_place_bit {lo : Nat} {b : Bool} (h : lo < w) : (place lo (bit1 b) : BitVec w).getLsbD lo = b := by
  have hbit : (place lo (bit1 b) : BitVec w).getLsbD (lo + 0) = (bit1 b).getLsbD 0 := getLsbD_place_at h
  rw [Nat.add_zero, getLsbD_bit1] at hbit
  exact hbit

theorem extractLsb'_of_hasField {x : BitVec n} {lo : Nat} {f : BitVec w} (h : HasField x lo f) :
    x.extractLsb' lo w = f := by
  refine BitVec.eq_of_getLsbD_eq fun k hk => ?_
  rw [BitVec.getLsbD_extractLsb', decide_eq_true hk, Bool.true_and, h k hk]

theorem getLsbD_zext_of_lt {x : BitVec n} {i : Nat} (h : i < 32) : (zext x).getLsbD i = x.getLsbD i := by
  rw [getLsbD_zext, decide_eq_true h, Bool.true_and]

/-- A field written through an alias, where the word seen is `x`. -/
theorem fieldWritten_of_hasField {x : Word} {lo : Nat} {old : BitVec w} (h : HasField x lo old) (hw : lo + w ≤ 32)
    (op : AliasOp) (v : Word) : FieldWritten op old (fieldAt (aliasApply op x v) lo w) v lo :=
  fieldWritten_fieldAt op old x v lo hw h

/-- A field written through an alias, where the word seen is a register's defined bits. -/
theorem fieldWritten_zext_of_hasField {x : BitVec n} {lo : Nat} {old : BitVec w} (h : HasField x lo old)
    (hw : lo + w ≤ 32) (op : AliasOp) (v : Word) :
    FieldWritten op old (fieldAt (aliasApply op (zext x) v) lo w) v lo :=
  fieldWritten_of_hasField (fun k hk => (getLsbD_zext_of_lt (by omega)).trans (h k hk)) hw op v

/-- A bit written through an alias. -/
theorem bitAt_aliasApply {x : BitVec n} {i : Nat} {b : Bool} (h : x.getLsbD i = b) (hi : i < 32) (op : AliasOp)
    (v : Word) : bitAt (aliasApply op (zext x) v) i = aliasBit op b (v.getLsbD i) := by
  rw [bitAt, aliasApply_getLsbD op _ v i hi, getLsbD_zext_of_lt hi, h]

/-- A register of one bit, written through an alias. -/
theorem bitAt_aliasApply_bit1 (b : Bool) (op : AliasOp) (v : Word) :
    bitAt (aliasApply op (zext (bit1 b)) v) 0 = aliasBit op b (v.getLsbD 0) :=
  bitAt_aliasApply (getLsbD_bit1 b 0) (by omega) op v

/-- A read of a register's defined bits, which `x` holds. -/
theorem reads_of_word {i : Instr} {s : State} {n : Nat} {word : BitVec n} {m : Word} {P : Word → Prop} (hn : n ≤ 32)
    (hm : (BitVec.allOnes n).setWidth 32 = m) (he : exec i s = .next (respondLow word s))
    (hP : ∀ x : Word, (∀ j, j < n → x.getLsbD j = word.getLsbD j) → P x) : Reads i s m P := by
  subst hm
  refine reads_of_respondMasked i s _ (zext word) P he fun x hx => hP x fun j hj => ?_
  rw [hx j ((PinMux.getLsbD_lowMask hn j).trans (decide_eq_true hj)), getLsbD_zext_of_lt (by omega)]

/-- A field of a word that agrees with `x` on it. -/
theorem extractLsb'_of_agrees {x : Word} {word : BitVec n} {lo : Nat} {f : BitVec w} (h : HasField word lo f)
    (hx : ∀ k, k < w → x.getLsbD (lo + k) = word.getLsbD (lo + k)) : x.extractLsb' lo w = f :=
  extractLsb'_of_hasField fun k hk => (hx k hk).trans (h k hk)

/-! ### IO_BANK0 and PADS_BANK0 -/

/-- GPIOn_CTRL (10_state.md R68). -/
theorem pinCtrlWord_fields (c : PinCtrl) : HasField (pinCtrlWord c) 0 c.funcsel ∧
    HasField (pinCtrlWord c) 8 c.outover ∧ HasField (pinCtrlWord c) 12 c.oeover ∧
    HasField (pinCtrlWord c) 16 c.inover ∧ HasField (pinCtrlWord c) 28 c.irqover := by
  refine ⟨fun k hk => ?_, fun k hk => ?_, fun k hk => ?_, fun k hk => ?_, fun k hk => ?_⟩ <;>
    simp (disch := omega) only [pinCtrlWord, BitVec.getLsbD_or, getLsbD_place_below, getLsbD_place_above,
      getLsbD_place_at, Bool.false_or, Bool.or_false]

/-- A pad (40_pin_mux.md R249). -/
theorem padWord_fields (p : Pad) : (padWord p).getLsbD 0 = p.slewfast ∧ (padWord p).getLsbD 1 = p.schmitt ∧
    (padWord p).getLsbD 2 = p.pde ∧ (padWord p).getLsbD 3 = p.pue ∧ HasField (padWord p) 4 p.drive ∧
    (padWord p).getLsbD 6 = p.ie ∧ (padWord p).getLsbD 7 = p.od := by
  refine ⟨?_, ?_, ?_, ?_, fun k hk => ?_, ?_, ?_⟩ <;>
    simp (disch := omega) only [padWord, BitVec.getLsbD_or, getLsbD_place_below, getLsbD_place_above,
      getLsbD_place_bit, getLsbD_place_at, Bool.false_or, Bool.or_false]

/-- GPIOn_STATUS (40_pin_mux.md R240). -/
theorem gpioStatusWord_bits (s : State) (t n : Nat) :
    (gpioStatusWord s t n).getLsbD 8 = outFromPeri s t n ∧ (gpioStatusWord s t n).getLsbD 9 = outToPad s t n ∧
    (gpioStatusWord s t n).getLsbD 12 = oeFromPeri s t n ∧ (gpioStatusWord s t n).getLsbD 13 = oeToPad s t n ∧
    (gpioStatusWord s t n).getLsbD 17 = inFromPad s (t + 1) n ∧
    (gpioStatusWord s t n).getLsbD 19 = inToPeri s (t + 1) n := by
  refine ⟨?_, ?_, ?_, ?_, ?_, ?_⟩ <;>
    simp (disch := omega) only [gpioStatusWord, BitVec.getLsbD_or, getLsbD_place_below, getLsbD_place_above,
      getLsbD_place_bit, Bool.false_or, Bool.or_false]

/-! ### I2C0 -/

/-- IC_CON (41_i2c_config.md R302). -/
theorem icConWord_fields (c : IcCon) : (icConWord c).getLsbD 0 = c.masterMode ∧ HasField (icConWord c) 1 c.speed ∧
    (icConWord c).getLsbD 3 = c.tenBitAddrSlave ∧ (icConWord c).getLsbD 4 = c.tenBitAddrMaster ∧
    (icConWord c).getLsbD 5 = c.restartEn ∧ (icConWord c).getLsbD 6 = c.slaveDisable ∧
    (icConWord c).getLsbD 7 = c.stopDetIfAddressed ∧ (icConWord c).getLsbD 8 = c.txEmptyCtrl ∧
    (icConWord c).getLsbD 9 = c.rxFifoFullHldCtrl ∧ (icConWord c).getLsbD 10 = false := by
  refine ⟨?_, fun k hk => ?_, ?_, ?_, ?_, ?_, ?_, ?_, ?_, ?_⟩ <;>
    simp (disch := omega) only [icConWord, BitVec.getLsbD_or, getLsbD_place_below, getLsbD_place_above,
      getLsbD_place_bit, getLsbD_place_at, Bool.false_or, Bool.or_false]

/-- IC_TAR (41_i2c_config.md R304). -/
theorem icTarWord_fields (t : IcTar) : HasField (icTarWord t) 0 t.addr ∧ (icTarWord t).getLsbD 10 = t.gcOrStart ∧
    (icTarWord t).getLsbD 11 = t.special := by
  refine ⟨fun k hk => ?_, ?_, ?_⟩ <;>
    simp (disch := omega) only [icTarWord, BitVec.getLsbD_or, getLsbD_place_below, getLsbD_place_above,
      getLsbD_place_bit, getLsbD_place_at, Bool.false_or, Bool.or_false]

/-- IC_SDA_HOLD (41_i2c_config.md R306). -/
theorem sdaHoldWord_fields (r : I2cRegs) : HasField (sdaHoldWord r) 0 r.sdaTxHold ∧
    HasField (sdaHoldWord r) 16 r.sdaRxHold := by
  refine ⟨fun k hk => ?_, fun k hk => ?_⟩ <;>
    simp (disch := omega) only [sdaHoldWord, BitVec.getLsbD_or, getLsbD_place_below, getLsbD_place_above,
      getLsbD_place_at, Bool.false_or, Bool.or_false]

/-- IC_ENABLE (41_i2c_config.md R324). -/
theorem icEnableWord_bits (e : IcEnable) : (icEnableWord e).getLsbD 0 = e.enable ∧
    (icEnableWord e).getLsbD 1 = e.abort ∧ (icEnableWord e).getLsbD 2 = e.txCmdBlock := by
  refine ⟨?_, ?_, ?_⟩ <;>
    simp (disch := omega) only [icEnableWord, BitVec.getLsbD_or, getLsbD_place_below, getLsbD_place_above,
      getLsbD_place_bit, Bool.false_or, Bool.or_false]

/-- IC_STATUS (42_i2c_data_status.md R365). -/
theorem icStatus_bits (s : State) : (icStatus s).getLsbD 0 = mstActivity s ∧
    (icStatus s).getLsbD 1 = decide (s.ctrl.txq.length < Config.txDepth) ∧
    (icStatus s).getLsbD 2 = decide (s.ctrl.txq.length = 0) ∧
    (icStatus s).getLsbD 3 = decide (0 < s.ctrl.rxq.length) ∧
    (icStatus s).getLsbD 4 = decide (s.ctrl.rxq.length = Config.rxDepth) ∧ (icStatus s).getLsbD 5 = mstActivity s ∧
    (icStatus s).getLsbD 6 = false := by
  refine ⟨?_, ?_, ?_, ?_, ?_, ?_, ?_⟩ <;>
    simp (disch := omega) only [icStatus, BitVec.getLsbD_or, getLsbD_place_below, getLsbD_place_above,
      getLsbD_place_bit, Bool.false_or, Bool.or_false]

/-- IC_ENABLE_STATUS (42_i2c_data_status.md R369). -/
theorem icEnableStatus_bits (s : State) : (icEnableStatus s).getLsbD 0 = s.ctrl.icEn ∧
    (icEnableStatus s).getLsbD 1 = false ∧ (icEnableStatus s).getLsbD 2 = false := by
  refine ⟨?_, ?_, ?_⟩ <;>
    simp (disch := omega) only [icEnableStatus, getLsbD_place_above, getLsbD_place_bit]

/-- IC_RAW_INTR_STAT (42_i2c_data_status.md R366). -/
theorem rawIntrStat_bits (s : State) : (rawIntrStat s).getLsbD 0 = s.ctrl.raw.rxUnder ∧
    (rawIntrStat s).getLsbD 1 = s.ctrl.raw.rxOver ∧ (rawIntrStat s).getLsbD 2 = rxFull s ∧
    (rawIntrStat s).getLsbD 3 = s.ctrl.raw.txOver ∧ (rawIntrStat s).getLsbD 4 = txEmpty s ∧
    (rawIntrStat s).getLsbD 5 = s.ctrl.raw.rdReq ∧ (rawIntrStat s).getLsbD 6 = s.ctrl.raw.txAbrt ∧
    (rawIntrStat s).getLsbD 7 = s.ctrl.raw.rxDone ∧ (rawIntrStat s).getLsbD 8 = s.ctrl.raw.activity ∧
    (rawIntrStat s).getLsbD 9 = s.ctrl.raw.stopDet ∧ (rawIntrStat s).getLsbD 10 = s.ctrl.raw.startDet ∧
    (rawIntrStat s).getLsbD 11 = s.ctrl.raw.genCall ∧ (rawIntrStat s).getLsbD 12 = s.ctrl.raw.restartDet := by
  refine ⟨?_, ?_, ?_, ?_, ?_, ?_, ?_, ?_, ?_, ?_, ?_, ?_, ?_⟩ <;>
    simp (disch := omega) only [rawIntrStat, BitVec.getLsbD_or, getLsbD_place_below, getLsbD_place_above,
      getLsbD_place_bit, Bool.false_or, Bool.or_false]

/-- IC_TX_ABRT_SOURCE (42_i2c_data_status.md R368). -/
theorem abrtSourceWord_fields (r : I2cRegs) : HasField (abrtSourceWord r) 0 r.abrtSource ∧
    HasField (abrtSourceWord r) 23 r.txFlushCnt := by
  refine ⟨fun k hk => ?_, fun k hk => ?_⟩ <;>
    simp (disch := omega) only [abrtSourceWord, BitVec.getLsbD_or, getLsbD_place_below, getLsbD_place_above,
      getLsbD_place_at, Bool.false_or, Bool.or_false]
end Sys2Proof.Proofs.Fields
end

section
/-! Pins, pads and resets: the alias writes of every plain register, the write of RESET, the registers of a pin, and
the levels of its node (20_memory.md R106, 40_pin_mux.md R201, R231 to R250, R260, R270). -/

namespace Sys2Proof.Proofs.Pins

open Sys2Proof Sys2Proof.Machine Sys2Proof.Safety Sys2Proof.Laws Sys2Proof.Proofs.Fields

/-! ### A write through an alias (20_memory.md R106) -/

/-- Where a write through an alias is the normal write of the word the alias operation gives, it is the normal write
of any word that is the alias operation's bit by bit. -/
theorem exec_alias {f : AliasOp → Word → Instr} {s : State} {old v w : Word} {op : AliasOp}
    (h : ∀ op v, exec (f op v) s = exec (f .normal (aliasApply op old v)) s) (hw : WordWritten op old v w) :
    exec (f op v) s = exec (f .normal w) s := by
  rw [h, aliasApply_of_wordWritten op old v w hw]

/-- Settles O33: every plain register's write takes the alias operation over its stored word, and nothing else of the
alias. -/
theorem aliasWriteIsOneNormalWrite : Obligations.AliasWriteIsOneNormalWrite := by
  intro op v w s same
  have plain {f : AliasOp → Word → Instr} {old : Word}
      (h : ∀ op v, exec (f op v) s = exec (f .normal (aliasApply op old v)) s) : same f old := exec_alias h
  exact ⟨plain fun _ _ => rfl, plain fun _ _ => rfl, plain fun _ _ => rfl, plain fun _ _ => rfl,
    plain fun _ _ => rfl, plain fun _ _ => rfl, plain fun _ _ => rfl, plain fun _ _ => rfl, plain fun _ _ => rfl,
    plain fun _ _ => rfl, plain fun _ _ => rfl, plain fun _ _ => rfl, plain fun _ _ => rfl, plain fun _ _ => rfl,
    plain fun _ _ => rfl, plain fun _ _ => rfl, plain fun _ _ => rfl, plain fun _ _ => rfl, plain fun _ _ => rfl,
    plain fun _ _ => rfl, plain fun _ _ => rfl, fun n => ⟨plain fun _ _ => rfl, plain fun _ _ => rfl⟩⟩

/-! ### RESETS (40_pin_mux.md R201, R204) -/

/-- The RESET_DONE bits after a write of RESET: those of the rising bits fall. -/
theorem getLsbD_done_of_write (reset done x : BitVec 25) {k : Nat} (hk : k < 25) :
    (done &&& ~~~(x &&& ~~~reset)).getLsbD k = (done.getLsbD k && !(x.getLsbD k && !reset.getLsbD k)) := by
  simp only [BitVec.getLsbD_and, BitVec.getLsbD_not, decide_eq_true hk, Bool.true_and]

/-- Settles O35: the write, whole, with the aliased word's field. -/
theorem resetWrite : Obligations.ResetWrite := by
  intro op v s
  refine ⟨fieldAt (aliasApply op (zext s.resets.reset) v) 0 25, _, PinMux.fieldWritten_zext (by omega) op _ v,
    fun k hk => getLsbD_done_of_write s.resets.reset s.resets.done _ hk, ?_⟩
  exact congrArg Host.Outcome.next (writeResets_eq _ s)

/-! ### GPIOn_CTRL and the pads (40_pin_mux.md R231, R232, R248, R249) -/

/-- An access to a pin's register of a block out of reset goes through. -/
theorem onPin_inBlock {n : BitVec 5} {b : Nat} {s : State} (hn : n.toNat ≤ 29) (hdone : s.resets.done.getLsbD b = true)
    (f : State → State) : onPin n (inBlock b f) s = f s := by
  rw [onPin, if_pos hn, inBlock_open hdone]

/-- The functions R231 admits, as numbers. -/
theorem funcselLegal_iff (f : BitVec 5) (n : Nat) : funcselLegal f n = true ↔
    (1 ≤ f.toNat ∧ f.toNat ≤ 9 ∨ f.toNat = 31) ∧ (f.toNat = 8 → 20 ≤ n ∧ n ≤ 25) := by
  have height : f = 8#5 ↔ f.toNat = 8 := BitVec.toNat_inj.symm
  have hnone : f = 0x1F#5 ↔ f.toNat = 31 := BitVec.toNat_inj.symm
  simp only [funcselLegal, Bool.and_eq_true, Bool.or_eq_true, decide_eq_true_eq, beq_iff_eq, bne_iff_ne, ne_eq, height,
    hnone, Decidable.imp_iff_not_or]

/-- A pin selects function 3, by its number. -/
theorem funcsel_eq_three (f : BitVec 5) : f = 3#5 ↔ f.toNat = 3 := BitVec.toNat_inj.symm

theorem isI2c0Pin_iff (n : Nat) : isI2c0Pin n = true ↔ n / 2 % 2 = 0 := by
  rw [isI2c0Pin, beq_iff_eq]

/-- The clash R231 refuses, as numbers. -/
theorem clash_iff (s : State) (f : BitVec 5) (n : Nat) :
    (f = 3#5 ∧ isI2c0Pin n = true ∧ otherPinSelects s n = true) ↔ f.toNat = 3 ∧ n / 2 % 2 = 0 ∧
      ∃ m, m < 30 ∧ m ≠ n ∧ (pinCtrlOf s m).funcsel.toNat = 3 ∧ m / 2 % 2 = 0 ∧ m % 2 = n % 2 := by
  simp only [StateInvariant.otherPinSelects_iff, funcsel_eq_three, isI2c0Pin_iff]

/-- Settles O37: the two refusals in their order, and the store. -/
theorem pinControlWrite : Obligations.PinControlWrite := by
  intro n op v s hn hdone
  obtain ⟨hfun, hout, hoe, hin, hirq⟩ := pinCtrlWord_fields (pinCtrlOf s n.toNat)
  refine ⟨pinCtrlOfWord (aliasApply op (pinCtrlWord (pinCtrlOf s n.toNat)) v),
    fieldWritten_of_hasField hfun (by omega) op v, fieldWritten_of_hasField hout (by omega) op v,
    fieldWritten_of_hasField hoe (by omega) op v, fieldWritten_of_hasField hin (by omega) op v,
    fieldWritten_of_hasField hirq (by omega) op v, ?_⟩
  have hexec : exec (.wrGpioCtrl n op v) s =
      .next (writePinCtrl n.toNat (aliasApply op (pinCtrlWord (pinCtrlOf s n.toNat)) v) s) :=
    congrArg Host.Outcome.next (onPin_inBlock hn hdone _)
  generalize aliasApply op (pinCtrlWord (pinCtrlOf s n.toNat)) v = w at hexec ⊢
  intro f legal clash
  have hlegal : funcselLegal (pinCtrlOfWord w).funcsel n.toNat = true ↔ legal := funcselLegal_iff _ _
  have hclash := clash_iff s (pinCtrlOfWord w).funcsel n.toNat
  rw [hexec]
  obtain ⟨hno, hs⟩ | ⟨hok, hyes, hs⟩ | ⟨hok, hno, hs⟩ := writePinCtrl_cases n.toNat w s
  · have hnot : ¬ legal := fun h => Bool.noConfusion (hno.symm.trans (hlegal.mpr h))
    exact ⟨fun _ => congrArg _ hs, fun h => absurd h hnot, fun h => absurd h hnot⟩
  · exact ⟨fun h => absurd (hlegal.mp hok) h, fun _ _ => congrArg _ hs, fun _ h => absurd (hclash.mp hyes) h⟩
  · refine ⟨fun h => absurd (hlegal.mp hok) h, fun _ h => absurd (hclash.mpr h) hno, fun _ _ => ?_⟩
    exact ⟨_, congrArg _ hs, rfl, pinCtrlOf_setPinCtrl_same s _ _ (by omega),
      fun m _ hm => pinCtrlOf_setPinCtrl_other s _ m _ hm⟩

/-- Settles O38: the fields of the aliased word are stored on the pad, and no other pad changes. -/
theorem padWrites : Obligations.PadWrites := by
  intro op v s hdone
  refine ⟨?_, fun n hn => ?_⟩
  · rw [← bitAt_aliasApply_bit1]
    exact congrArg Host.Outcome.next (inBlock_open hdone _)
  · obtain ⟨hslew, hschmitt, hpde, hpue, hdrive, hie, hod⟩ := padWord_fields (padOf s n.toNat)
    exact ⟨padOfWord (aliasApply op (zext (padWord (padOf s n.toNat))) v), _,
      congrArg Host.Outcome.next (onPin_inBlock hn hdone _), rfl, rfl, padOf_setPad_same s _ _ (by omega),
      fun m _ hm => padOf_setPad_other s _ m _ hm, bitAt_aliasApply hslew (by omega) op v,
      bitAt_aliasApply hschmitt (by omega) op v, bitAt_aliasApply hpde (by omega) op v,
      bitAt_aliasApply hpue (by omega) op v, fieldWritten_zext_of_hasField hdrive (by omega) op v,
      bitAt_aliasApply hie (by omega) op v, bitAt_aliasApply hod (by omega) op v⟩

/-- Settles O39: each field of the stored word, where the mask has it. -/
theorem pinRegisterReads : Obligations.PinRegisterReads := by
  intro s
  refine ⟨fun hdone n hn => ?_, fun hdone => ⟨?_, fun n hn => ?_⟩⟩
  · obtain ⟨hfun, hout, hoe, hin, hirq⟩ := pinCtrlWord_fields (pinCtrlOf s n.toNat)
    refine reads_of_respondMasked _ s pinCtrlDefined (pinCtrlWord (pinCtrlOf s n.toNat)) _
      (congrArg Host.Outcome.next (onPin_inBlock hn hdone _)) fun x hx => ?_
    exact ⟨extractLsb'_of_agrees hfun fun k hk => hx _ (by revert k; decide),
      extractLsb'_of_agrees hout fun k hk => hx _ (by revert k; decide),
      extractLsb'_of_agrees hoe fun k hk => hx _ (by revert k; decide),
      extractLsb'_of_agrees hin fun k hk => hx _ (by revert k; decide),
      extractLsb'_of_agrees hirq fun k hk => hx _ (by revert k; decide)⟩
  · exact reads_of_word (word := bit1 s.pads.voltageSelect) (by omega) (by decide)
      (congrArg Host.Outcome.next (inBlock_open hdone _))
      fun x hx => (hx 0 (by omega)).trans (getLsbD_bit1 _ 0)
  · obtain ⟨hslew, hschmitt, hpde, hpue, hdrive, hie, hod⟩ := padWord_fields (padOf s n.toNat)
    refine reads_of_word (word := padWord (padOf s n.toNat)) (by omega) (by decide)
      (congrArg Host.Outcome.next (onPin_inBlock hn hdone _)) fun x hx => ?_
    exact ⟨(hx 0 (by omega)).trans hslew, (hx 1 (by omega)).trans hschmitt, (hx 2 (by omega)).trans hpde,
      (hx 3 (by omega)).trans hpue, extractLsb'_of_agrees hdrive fun k hk => hx _ (by omega),
      (hx 6 (by omega)).trans hie, (hx 7 (by omega)).trans hod⟩

/-! ### Levels (40_pin_mux.md R233 to R236, R250) -/

/-- Nothing contends where the node is not driven high. -/
theorem contends_of_not_nodeHigh {s : State} {t n : Nat} (h : nodeHigh s t n = false) : contends s t n = false := by
  rw [contends, h, Bool.and_false]

theorem level_of_nodeLow {s : State} {t n : Nat} (hc : contends s t n = false) (hl : nodeLow s t n = true) :
    level s t n = false := by
  simp only [level, hc, hl, Bool.false_eq_true, if_false, if_true]

theorem level_of_nodeHigh {s : State} {t n : Nat} (hl : nodeLow s t n = false) (hh : nodeHigh s t n = true) :
    level s t n = true := by
  have hc : contends s t n = false := by rw [contends, hl, Bool.false_and]
  simp only [level, hc, hl, hh, Bool.false_eq_true, if_false, if_true]

/-- The level of a node that nothing drives is its pulls'. -/
theorem level_of_undriven {s : State} {t n : Nat} (hl : nodeLow s t n = false) (hh : nodeHigh s t n = false) :
    level s t n =
      if (padOf s n).pue && (padOf s n).pde then Config.freeBool t (.level n)
      else if ((padOf s n).pue || extPullup n) && !(padOf s n).pde then true
      else if (padOf s n).pde && !extPullup n then false
      else Config.freeBool t (.level n) := by
  simp only [level, contends_of_not_nodeHigh hh, hl, hh, Bool.false_eq_true, if_false]

/-- A signal that no override changes. -/
theorem overridden_zero (x : Bool) : overridden 0#2 x = x := if_pos rfl

/-- A pin that SIO drives through no override drives its node to SIO's value. -/
theorem drives_of_sio {s : State} {n : Nat} (t : Nat) (hf : (pinCtrlOf s n).funcsel = 5#5)
    (hout : (pinCtrlOf s n).outover = 0#2) (hoe : (pinCtrlOf s n).oeover = 0#2) (hod : (padOf s n).od = false)
    (hen : s.sio.gpioOe.getLsbD n = true) : drives s t n = true ∧ outToPad s t n = s.sio.gpioOut.getLsbD n := by
  have hne : ¬ (5#5 = 3#5 ∧ isI2c0Pin n = true) := fun h => absurd h.1 (by decide)
  constructor
  · rw [drives, oeToPad, hoe, overridden_zero, hod, oeFromPeri, hf, if_neg hne, if_pos rfl, hen]
    rfl
  · rw [outToPad, hout, overridden_zero, outFromPeri, hf, if_neg hne, if_pos rfl]

/-- Settles O43: each clause is the branch of the level that its premises select. -/
theorem nodeLevels : Obligations.NodeLevels := by
  intro s t n
  refine ⟨level_of_nodeLow, level_of_nodeHigh, contends_iff s t n, fun hl hh hup hdown => ?_,
    fun hl hh hup hdown hext => ?_, fun hf hout hoe hod henv hen => ?_⟩
  · have hpull : ((padOf s n).pue || extPullup n) = true := by rwa [Bool.or_eq_true]
    rw [level_of_undriven hl hh, hdown, hpull, Bool.and_false]
    rfl
  · rw [level_of_undriven hl hh, hup, hdown, hext]
    rfl
  · obtain ⟨hdrives, hvalue⟩ := drives_of_sio t hf hout hoe hod hen
    cases hbit : s.sio.gpioOut.getLsbD n with
    | false =>
      rw [hbit] at hvalue
      have hh : nodeHigh s t n = false := by rw [nodeHigh, hvalue, Bool.and_false]
      have hl : nodeLow s t n = true := by rw [nodeLow, hdrives, hvalue]; rfl
      exact level_of_nodeLow (contends_of_not_nodeHigh hh) hl
    | true =>
      rw [hbit] at hvalue
      have hl : nodeLow s t n = false := by rw [nodeLow, hdrives, hvalue, henv]; rfl
      exact level_of_nodeHigh hl (by rw [nodeHigh, hdrives, hvalue]; rfl)

/-! ### The two configured pins (40_pin_mux.md R245, R270) -/

/-- A configured pin, as its clauses. -/
theorem i2cPinOk_iff (s : State) (n : Nat) : i2cPinOk s n = true ↔
    (pinCtrlOf s n).funcsel = 3#5 ∧ (pinCtrlOf s n).outover = 0#2 ∧ (pinCtrlOf s n).oeover = 0#2 ∧
    (pinCtrlOf s n).inover = 0#2 ∧ (padOf s n).pue = true ∧ (padOf s n).pde = false ∧
    (padOf s n).ie = true ∧ (padOf s n).od = false := by
  simp only [i2cPinOk, pinConnected, Bool.and_eq_true, Bool.not_eq_true', beq_iff_eq]
  constructor
  · rintro ⟨⟨⟨⟨⟨⟨⟨hf, hout⟩, hoe⟩, hin⟩, hod⟩, hie⟩, hpue⟩, hpde⟩
    exact ⟨hf, hout, hoe, hin, hpue, hpde, hie, hod⟩
  · rintro ⟨hf, hout, hoe, hin, hpue, hpde, hie, hod⟩
    exact ⟨⟨⟨⟨⟨⟨⟨hf, hout⟩, hoe⟩, hin⟩, hod⟩, hie⟩, hpue⟩, hpde⟩

/-- A configured pin is connected, pulled up, and alone in its signal where the pins are legal. -/
theorem connected_of_i2cPinOk {s : State} {n : Nat} (hpins : pinsLegal s = true) (hn : n < 30)
    (hi2c : isI2c0Pin n = true) (h : i2cPinOk s n = true) :
    pinConnected s n = true ∧ pulledUp s n = true ∧ otherPinSelects s n = false := by
  obtain ⟨hf, hout, hoe, hin, hpue, hpde, hie, hod⟩ := (i2cPinOk_iff s n).mp h
  obtain ⟨-, hno⟩ := (StateInvariant.pinsLegal_iff s).mp hpins n hn
  refine ⟨?_, ?_, eq_false_of_ne_true fun hother => hno ⟨hf, hi2c, hother⟩⟩
  · rw [pinConnected, hf, hout, hoe, hin, hod, hie]
    rfl
  · rw [pulledUp, hpue, hpde]
    rfl

/-- Settles O41: the clauses of a configured pin are those of a connected one. -/
theorem configuredPinsAreWired : Obligations.ConfiguredPinsAreWired := by
  refine ⟨i2cPinOk_iff, fun s hpins hsda hscl => ?_⟩
  obtain ⟨hcsda, hpsda, hosda⟩ := connected_of_i2cPinOk hpins (by decide) (by decide) hsda
  obtain ⟨hcscl, hpscl, hoscl⟩ := connected_of_i2cPinOk hpins (by decide) (by decide) hscl
  simp only [wired, Config.sdaPin, Config.sclPin, hcsda, hpsda, hosda, hcscl, hpscl, hoscl]
  rfl

/-- A configured pin of an I2C0 signal drives its node low with the controller's output enable, and never high. -/
theorem node_of_i2cPinOk {s : State} {n : Nat} (t : Nat) (h : i2cPinOk s n = true) (hi2c : isI2c0Pin n = true) :
    nodeLow s t n = ((if n % 2 = 0 then s.ctrl.sdaOe else s.ctrl.sclOe) || envLow s n) ∧
    nodeHigh s t n = false := by
  obtain ⟨hf, hout, hoe, -, -, -, -, hod⟩ := (i2cPinOk_iff s n).mp h
  have hvalue : outToPad s t n = false := by
    rw [outToPad, hout, overridden_zero, outFromPeri, hf, if_pos ⟨rfl, hi2c⟩]
  have hdrives : drives s t n = if n % 2 = 0 then s.ctrl.sdaOe else s.ctrl.sclOe := by
    rw [drives, oeToPad, hoe, overridden_zero, hod, oeFromPeri, hf, if_pos ⟨rfl, hi2c⟩, Bool.not_false, Bool.and_true]
  rw [nodeLow, nodeHigh, hvalue, hdrives, Bool.not_false, Bool.and_true, Bool.and_false]
  exact ⟨rfl, rfl⟩

/-- The node of a configured pin is open drain: low where something pulls it low, else its pull-up's. -/
theorem level_of_i2cPinOk {s : State} {n : Nat} (t : Nat) (h : i2cPinOk s n = true) (hi2c : isI2c0Pin n = true) :
    level s t n = (!((if n % 2 = 0 then s.ctrl.sdaOe else s.ctrl.sclOe) || envLow s n)) ∧
    contends s t n = false := by
  obtain ⟨-, -, -, -, hpue, hpde, -, -⟩ := (i2cPinOk_iff s n).mp h
  obtain ⟨hl, hh⟩ := node_of_i2cPinOk t h hi2c
  have hc := contends_of_not_nodeHigh hh
  refine ⟨?_, hc⟩
  rw [← hl]
  cases hlow : nodeLow s t n with
  | true => exact level_of_nodeLow hc hlow
  | false =>
    rw [level_of_undriven hlow hh, hpue, hpde]
    rfl

/-- Settles O42: SDA on pin 4 and SCL on pin 5. -/
theorem configuredWiresAreOpenDrain : Obligations.ConfiguredWiresAreOpenDrain := by
  intro s t
  have hsda : envLow s 4 = s.wires.envSdaLow := Bool.or_false _
  have hscl : envLow s 5 = s.wires.envSclLow := Bool.false_or _
  refine ⟨fun h => ?_, fun h => ?_⟩
  · have hlevel := level_of_i2cPinOk t h (by decide)
    rw [hsda] at hlevel
    exact hlevel
  · have hlevel := level_of_i2cPinOk t h (by decide)
    rw [hscl] at hlevel
    exact hlevel

/-! ### Reads of the pins' levels (40_pin_mux.md R240, R260) -/

/-- The input path of a pin. -/
theorem inFromPad_eq (s : State) (t n : Nat) : inFromPad s t n = ((padOf s n).ie && level s t n) := by
  rw [inFromPad]
  cases (padOf s n).ie <;> rfl

/-- Settles O40: the bits of the status word, and the mark of the level computation. -/
theorem pinStatusRead : Obligations.PinStatusRead := by
  intro n s hn hdone
  have hstate : exec (.rdGpioStatus n) s = .next (readGpioStatus n.toNat s) :=
    congrArg Host.Outcome.next (onPin_inBlock hn hdone _)
  have hbits {j : Nat} (hj : gpioStatusDefined.getLsbD j = true) :
      ((gpioStatusWord s s.draws n.toNat &&& gpioStatusDefined) |||
        (Config.freeWord s.draws &&& ~~~gpioStatusDefined)).getLsbD j = (gpioStatusWord s s.draws n.toNat).getLsbD j :=
    masked_getLsbD _ _ _ j hj
  obtain ⟨houtp, hout, hoep, hoe, hin, hinp⟩ := gpioStatusWord_bits s s.draws n.toNat
  refine ⟨_, hstate.trans (congrArg Host.Outcome.next ?_), (hbits (by decide)).trans houtp,
    (hbits (by decide)).trans hout, (hbits (by decide)).trans hoep, (hbits (by decide)).trans hoe,
    (hbits (by decide)).trans (hin.trans (inFromPad_eq s _ _)), (hbits (by decide)).trans (hinp.trans ?_)⟩
  · rw [readGpioStatus, checkRead_eq]
    by_cases hmark : (padOf s n.toNat).ie = true ∧ contends s (s.draws + 1) n.toNat = true
    · rw [if_pos hmark, if_pos hmark]
      rfl
    · rw [if_neg hmark, if_neg hmark, List.append_nil]
      rfl
  · rw [inToPeri, inFromPad_eq]

/-- The bits of GPIO_IN, pin by pin. -/
theorem getLsbD_gpioInWord (s : State) (t k : Nat) {n : Nat} (hn : n < 32) :
    (gpioInWord s t k).getLsbD n = (decide (n < k) && inFromPad s t n) := by
  induction k with
  | zero => rw [gpioInWord]; exact BitVec.getLsbD_zero
  | succ k ih =>
    have hbit : (zext (bit1 (inFromPad s t k)) <<< k).getLsbD n = (decide (n = k) && inFromPad s t n) := by
      rw [BitVec.getLsbD_shiftLeft, getLsbD_zext, getLsbD_bit1, decide_eq_true hn, Bool.true_and]
      by_cases hnk : n = k
      · subst hnk
        simp
      · by_cases hlt : n < k
        · simp [hlt, hnk]
        · have hsub : n - k ≠ 0 := by omega
          simp [hlt, hnk, hsub]
    rw [gpioInWord, BitVec.getLsbD_or, ih, hbit, ← Bool.and_or_distrib_right]
    congr 1
    rw [← Bool.decide_or]
    exact decide_eq_decide.mpr (by omega)

/-- Settles O45: the thirty bits of GPIO_IN, and a mark for each contention met. -/
theorem gpioInRead : Obligations.GpioInRead := by
  intro s met
  refine ⟨(gpioInWord s s.draws Config.nGpio &&& 0x3FFFFFFF#32) ||| (Config.freeWord s.draws &&& ~~~0x3FFFFFFF#32),
    ?_, fun n hn => ?_⟩
  · show Host.Outcome.next (readGpioIn s) = _
    rw [readGpioIn, checkReads_eq]
    rfl
  · have hmask : (0x3FFFFFFF#32).getLsbD n = true := by revert n; decide
    rw [masked_getLsbD _ _ _ n hmask, getLsbD_gpioInWord s _ _ (by omega),
      decide_eq_true (show n < Config.nGpio from hn), Bool.true_and, inFromPad_eq]

end Sys2Proof.Proofs.Pins
end

section
/-! The registers of I2C0: what each read shows and what each write stores (41_i2c_config.md R301 to R324,
42_i2c_data_status.md R360 to R375), and the values after reset (10_state.md R79). -/

namespace Sys2Proof.Proofs.Registers

open Sys2Proof Sys2Proof.Machine Sys2Proof.Safety Sys2Proof.Laws Sys2Proof.Proofs.Fields

/-- An access to I2C0 out of reset goes through. -/
theorem exec_open {i : Instr} {s : State} {f : State → State} (he : exec i s = .next (inBlock i2cBit f s))
    (hdone : s.resets.done.getLsbD 3 = true) : exec i s = .next (f s) :=
  he.trans (congrArg Host.Outcome.next (inBlock_open hdone f))

/-! ### Reads of stored fields -/

section
variable {i : Instr} {s : State}

/-- A read of a register that holds one field, at bit 0. -/
theorem reads_field {w : Nat} {f : BitVec w} {m : Word} (he : exec i s = .next (inBlock i2cBit (respondLow f) s))
    (hdone : s.resets.done.getLsbD 3 = true) (hw : w ≤ 32 := by omega)
    (hm : (BitVec.allOnes w).setWidth 32 = m := by decide) : Reads i s m (fun v => v.extractLsb' 0 w = f) :=
  PinMux.reads_of_respondLow hw hm (exec_open he hdone)

/-- A read of a register that holds one bit. -/
theorem reads_bit {b : Bool} (he : exec i s = .next (inBlock i2cBit (respondLow (bit1 b)) s))
    (hdone : s.resets.done.getLsbD 3 = true) : Reads i s 0x1 (fun v => v.getLsbD 0 = b) :=
  reads_of_word (by omega) (by decide) (exec_open he hdone) fun _ hx =>
    (hx 0 (by omega)).trans (getLsbD_bit1 b 0)

end

/-- Settles O18: each read shows the fields of its register's word. -/
theorem configRegisterReads : Obligations.ConfigRegisterReads := by
  intro s hdone
  refine ⟨?con, ?offAlias, ?tar, reads_field rfl hdone, reads_field rfl hdone, reads_field rfl hdone,
    reads_field rfl hdone, reads_field rfl hdone, reads_field rfl hdone, ?hold, reads_field rfl hdone,
    reads_field rfl hdone, reads_field rfl hdone, reads_field rfl hdone, reads_field rfl hdone,
    reads_field rfl hdone, reads_field rfl hdone, reads_bit rfl hdone, reads_bit rfl hdone, ?enable⟩
  case con =>
    obtain ⟨hmaster, hspeed, hslave10, hmaster10, hrestart, hslave, hstop, hempty, hhold, hhigh⟩ :=
      icConWord_fields s.i2c.con
    exact reads_of_word (by omega) (by decide) (exec_open rfl hdone) fun x hx =>
      ⟨(hx 0 (by omega)).trans hmaster, extractLsb'_of_agrees hspeed fun k hk => hx _ (by omega),
        (hx 3 (by omega)).trans hslave10, (hx 4 (by omega)).trans hmaster10, (hx 5 (by omega)).trans hrestart,
        (hx 6 (by omega)).trans hslave, (hx 7 (by omega)).trans hstop, (hx 8 (by omega)).trans hempty,
        (hx 9 (by omega)).trans hhold, (hx 10 (by omega)).trans hhigh⟩
  case offAlias =>
    intro op v hop
    cases op with
    | normal => exact absurd rfl hop
    | xorBits | setBits | clrBits => rfl
  case tar =>
    obtain ⟨haddr, hstart, hspecial⟩ := icTarWord_fields s.i2c.tar
    exact reads_of_word (by omega) (by decide) (exec_open rfl hdone) fun x hx =>
      ⟨extractLsb'_of_agrees haddr fun k hk => hx _ (by omega), (hx 10 (by omega)).trans hstart,
        (hx 11 (by omega)).trans hspecial⟩
  case hold =>
    obtain ⟨htx, hrx⟩ := sdaHoldWord_fields s.i2c
    exact reads_of_word (by omega) (by decide) (exec_open rfl hdone) fun x hx =>
      ⟨extractLsb'_of_agrees htx fun k hk => hx _ (by omega), extractLsb'_of_agrees hrx fun k hk => hx _ (by omega)⟩
  case enable =>
    obtain ⟨hen, habort, hblock⟩ := icEnableWord_bits s.i2c.enable
    exact reads_of_word (by omega) (by decide) (exec_open rfl hdone) fun x hx =>
      ⟨(hx 0 (by omega)).trans hen, (hx 1 (by omega)).trans habort, (hx 2 (by omega)).trans hblock⟩

/-! ### Status and interrupts -/

/-- A FIFO level fits its five bits. -/
theorem reads_level {i : Instr} {s : State} {n : Nat} (hn : n ≤ 16)
    (he : exec i s = .next (inBlock i2cBit (respondLow (BitVec.ofNat 5 n)) s))
    (hdone : s.resets.done.getLsbD 3 = true) : Reads i s 0x1F (fun v => (v.extractLsb' 0 5).toNat = n) := by
  obtain ⟨v, hv, hfree, hfield⟩ := reads_field (m := 0x1F) he hdone
  refine ⟨v, hv, hfree, ?_⟩
  show (v.extractLsb' 0 5).toNat = n
  rw [hfield, BitVec.toNat_ofNat]
  omega

/-- Settles O19: the bits of the status words. -/
theorem statusReads : Obligations.StatusReads := by
  intro s hdone
  refine ⟨fun hn => reads_level hn rfl hdone, fun hn => reads_level hn rfl hdone, ?_, ?_⟩
  · obtain ⟨hact, htnf, htfe, hrne, hrff, hmst, hslv⟩ := icStatus_bits s
    refine reads_of_word (by omega) (by decide) (exec_open rfl hdone) fun x hx =>
      ⟨(hx 0 (by omega)).trans hact, (hx 1 (by omega)).trans htnf, (hx 2 (by omega)).trans (htfe.trans ?_),
        (hx 3 (by omega)).trans (hrne.trans ?_), (hx 4 (by omega)).trans hrff, (hx 5 (by omega)).trans hmst,
        (hx 6 (by omega)).trans hslv⟩
    · exact decide_eq_decide.mpr List.length_eq_zero_iff
    · exact decide_eq_decide.mpr List.length_pos_iff
  · obtain ⟨hen, hone, htwo⟩ := icEnableStatus_bits s
    exact reads_of_word (by omega) (by decide) (exec_open rfl hdone) fun x hx =>
      ⟨(hx 0 (by omega)).trans hen, (hx 1 (by omega)).trans hone, (hx 2 (by omega)).trans htwo⟩

/-- The interrupt line, bit by bit. -/
theorem i2c0Irq_iff (s : State) : i2c0Irq s = true ↔
    ∃ k, k < 13 ∧ (rawIntrStat s).getLsbD k = true ∧ s.i2c.intrMask.getLsbD k = true := by
  have zero (k : Nat) : (0 : BitVec 13).getLsbD k = false := BitVec.getLsbD_zero
  rw [i2c0Irq, decide_eq_true_eq, intrStat]
  constructor
  · intro hne
    by_contra hnone
    refine hne (BitVec.eq_of_getLsbD_eq fun k hk => ?_)
    rw [BitVec.getLsbD_and, zero, Bool.and_eq_false_iff, ← Bool.not_eq_true, ← Bool.not_eq_true,
      ← not_and_or]
    exact fun hboth => hnone ⟨k, hk, hboth⟩
  · rintro ⟨k, -, hraw, hmask⟩ hzero
    have hbit := congrArg (BitVec.getLsbD · k) hzero
    simp only [BitVec.getLsbD_and, hraw, hmask, zero] at hbit
    cases hbit

/-- Settles O20: the raw word's bits, and the masked word. -/
theorem interruptReads : Obligations.InterruptReads := by
  intro s hdone
  obtain ⟨h0, h1, h2, h3, h4, h5, h6, h7, h8, h9, h10, h11, h12⟩ := rawIntrStat_bits s
  exact ⟨rawIntrStat s, h0, h1, h2, h3, h4, h5, h6, h7, h8, h9, h10, h11, h12, reads_field rfl hdone,
    reads_field rfl hdone, i2c0Irq_iff s⟩

/-- A read of an identification register. -/
theorem returns_constant {i : Instr} {s : State} {c : Word} (he : exec i s = .next (inBlock i2cBit (respond c) s))
    (hdone : s.resets.done.getLsbD 3 = true) : exec i s = .next (answered s c 0) :=
  exec_open he hdone

/-- Settles O21: the two fields under the mask, and the constants. -/
theorem abortSourceAndIdentityReads : Obligations.AbortSourceAndIdentityReads := by
  intro s hdone
  obtain ⟨hsrc, hcnt⟩ := abrtSourceWord_fields s.i2c
  refine ⟨reads_of_respondMasked _ s abrtSourceDefined (abrtSourceWord s.i2c) _ (exec_open rfl hdone) fun x hx => ?_,
    returns_constant rfl hdone, returns_constant rfl hdone, returns_constant rfl hdone⟩
  exact ⟨extractLsb'_of_agrees hsrc fun k hk => hx _ (by revert k; decide),
    extractLsb'_of_agrees hcnt fun k hk => hx _ (by revert k; decide)⟩

/-! ### Clear registers (42_i2c_data_status.md R370 to R375) -/

/-- A read of a single-bit clear register. -/
theorem clears {i : Instr} {s : State} {f : RawBits → RawBits} {r : RawBits}
    (he : exec i s = .next (inBlock i2cBit (clearRaw f) s)) (hr : f s.ctrl.raw = r)
    (hdone : s.resets.done.getLsbD 3 = true) :
    ∃ v, exec i s = .next (answered { s with ctrl := { s.ctrl with raw := r } } v 1) :=
  hr ▸ ⟨_, exec_open he hdone⟩

/-- Settles O22: each register clears its own bit. -/
theorem singleBitClears : Obligations.SingleBitClears := by
  intro s hdone
  exact ⟨clears rfl rfl hdone, clears rfl rfl hdone, clears rfl rfl hdone, clears rfl rfl hdone,
    clears rfl rfl hdone, clears rfl rfl hdone, clears rfl rfl hdone, clears rfl rfl hdone, clears rfl rfl hdone,
    clears rfl rfl hdone⟩

/-- Settles O23: both registers end the abort. -/
theorem abortClears : Obligations.AbortClears := by
  intro s hdone
  have habrt := exec_open (i := .rdIcClrTxAbrt) (s := s) rfl hdone
  have hintr := exec_open (i := .rdIcClrIntr) (s := s) rfl hdone
  exact ⟨⟨_, Config.freeFlushCnt s.draws, habrt⟩, ⟨_, Config.freeFlushCnt s.draws, hintr⟩⟩

/-! ### IC_ENABLE (41_i2c_config.md R320 to R323) -/

/-- Settles O26: the branches of the write that do not enable. -/
theorem enableOtherWrites : Obligations.EnableOtherWrites := by
  intro v s hdone stored
  have hexec : exec (.wrIcEnable v) s = .next (writeEnable v s) := exec_open rfl hdone
  rw [hexec]
  refine ⟨fun h0 h1 => ?_, fun h0 h1 hon hbusy => ?_, fun h0 h1 hon hfree hshift habort => ?_, fun h0 h1 hoff => ?_,
    fun h0 hon => ?_⟩
  · simp only [writeEnable, bitAt, h0, h1]
    rfl
  · have hactive : (s.ctrl.owned || s.ctrl.shift.isSome || s.i2c.enable.abort) = true := by
      rw [Bool.or_eq_true, Bool.or_eq_true, Option.isSome_iff_ne_none, or_assoc]
      exact hbusy
    simp only [writeEnable, bitAt, h0, h1, hon, hactive]
    rfl
  · have hidle : (s.ctrl.owned || s.ctrl.shift.isSome || s.i2c.enable.abort) = false := by
      rw [hfree, hshift, habort]
      rfl
    simp only [writeEnable, bitAt, stored, h0, h1, hon, hidle]
    rfl
  · simp only [writeEnable, bitAt, stored, h0, h1, hoff]
    rfl
  · simp only [writeEnable, bitAt, stored, h0, hon]
    cases v.getLsbD 1 <;> rfl

/-! ### Writes of the configuration registers -/

section
variable {i : Instr} {s : State} {f : I2cRegs → I2cRegs} {r : I2cRegs}

/-- A write at any time. -/
theorem stored (he : exec i s = .next (inBlock i2cBit (updI2c f) s)) (hr : f s.i2c = r)
    (hdone : s.resets.done.getLsbD 3 = true) : exec i s = .next { s with i2c := r } := by
  rw [exec_open he hdone, updI2c, hr]

/-- A threshold write. -/
theorem threshold {w : Word} {g : BitVec 8 → I2cRegs → I2cRegs} {x : BitVec 8}
    (he : exec i s = .next (inBlock i2cBit (writeThreshold w (fun x => updI2c (g x))) s)) (hx : fieldAt w 0 8 = x)
    (hr : g x s.i2c = r) (hdone : s.resets.done.getLsbD 3 = true) :
    exec i s = .next (if x.toNat > 15 then refuse .thresholdRange s else { s with i2c := r }) := by
  rw [exec_open he hdone, writeThreshold, hx, updI2c, hr]

/-- A gated write while enabled. -/
theorem gated_on (he : exec i s = .next (inBlock i2cBit (gated (updI2c f)) s))
    (hdone : s.resets.done.getLsbD 3 = true) (hon : s.ctrl.icEn = true) : exec i s = .next s := by
  rw [exec_open he hdone, gated, if_pos hon]

/-- A gated write while disabled. -/
theorem gated_off (he : exec i s = .next (inBlock i2cBit (gated (updI2c f)) s)) (hr : f s.i2c = r)
    (hdone : s.resets.done.getLsbD 3 = true) (hoff : s.ctrl.icEn = false) :
    exec i s = .next { s with i2c := r } := by
  rw [exec_open he hdone, gated, hoff, if_neg Bool.false_ne_true, updI2c, hr]

/-- A write that is refused while enabled. -/
theorem whileDisabled_on (he : exec i s = .next (inBlock i2cBit (whileDisabled (updI2c f)) s))
    (hdone : s.resets.done.getLsbD 3 = true) (hon : s.ctrl.icEn = true) :
    exec i s = .next (refuse .configWhileEnabled s) := by
  rw [exec_open he hdone, whileDisabled, if_pos hon]

/-- The same write while disabled. -/
theorem whileDisabled_off (he : exec i s = .next (inBlock i2cBit (whileDisabled (updI2c f)) s)) (hr : f s.i2c = r)
    (hdone : s.resets.done.getLsbD 3 = true) (hoff : s.ctrl.icEn = false) :
    exec i s = .next { s with i2c := r } := by
  rw [exec_open he hdone, whileDisabled, hoff, if_neg Bool.false_ne_true, updI2c, hr]

end

/-- Settles O27: the gate of each register's write. -/
theorem gatedWritesWhileEnabled : Obligations.GatedWritesWhileEnabled := by
  intro op v s hdone hon
  exact ⟨gated_on rfl hdone hon, gated_on rfl hdone hon, gated_on rfl hdone hon, gated_on rfl hdone hon,
    gated_on rfl hdone hon, gated_on rfl hdone hon, gated_on rfl hdone hon, gated_on rfl hdone hon⟩

/-- Settles O28: the fields of the aliased word, SPEED made legal. -/
theorem controlRegisterWrite : Obligations.ControlRegisterWrite := by
  intro op v s hdone hoff
  obtain ⟨hmaster, hspeed, hslave10, hmaster10, hrestart, hslave, hstop, hempty, hhold, -⟩ :=
    icConWord_fields s.i2c.con
  exact ⟨icConOfWord (aliasApply op (zext (icConWord s.i2c.con)) v), _, gated_off rfl rfl hdone hoff,
    fieldWritten_zext_of_hasField hspeed (by omega) op v, rfl,
    bitAt_aliasApply hmaster (by omega) op v, bitAt_aliasApply hslave10 (by omega) op v,
    bitAt_aliasApply hmaster10 (by omega) op v, bitAt_aliasApply hrestart (by omega) op v,
    bitAt_aliasApply hslave (by omega) op v, bitAt_aliasApply hstop (by omega) op v,
    bitAt_aliasApply hempty (by omega) op v, bitAt_aliasApply hhold (by omega) op v⟩

/-- A value below a minimum is stored as the minimum. -/
theorem toNat_atLeast (x least : BitVec w) : (if x < least then least else x).toNat = max x.toNat least.toNat := by
  split
  · rename_i h
    have hlt := BitVec.lt_def.mp h
    omega
  · rename_i h
    have hge := BitVec.le_def.mp (BitVec.not_lt.mp h)
    omega

/-- Settles O29: the fields of the aliased word, each count with its minimum. -/
theorem addressAndCountWrites : Obligations.AddressAndCountWrites := by
  intro op v s hdone hoff
  have field {w : Nat} (hw : w ≤ 32) (old : BitVec w) := PinMux.fieldWritten_zext hw op old v
  refine ⟨?tar, ⟨_, field (by omega) s.i2c.sar, gated_off rfl rfl hdone hoff⟩,
    ⟨_, _, field (by omega) s.i2c.ssHcnt, toNat_atLeast _ Config.hcntMin, gated_off rfl rfl hdone hoff⟩,
    ⟨_, _, field (by omega) s.i2c.ssLcnt, toNat_atLeast _ Config.lcntMin, gated_off rfl rfl hdone hoff⟩,
    ⟨_, _, field (by omega) s.i2c.fsHcnt, toNat_atLeast _ Config.hcntMin, gated_off rfl rfl hdone hoff⟩,
    ⟨_, _, field (by omega) s.i2c.fsLcnt, toNat_atLeast _ Config.lcntMin, gated_off rfl rfl hdone hoff⟩,
    ⟨_, _, field (by omega) s.i2c.fsSpklen, toNat_atLeast _ Config.spklenMin, gated_off rfl rfl hdone hoff⟩⟩
  obtain ⟨haddr, hstart, hspecial⟩ := icTarWord_fields s.i2c.tar
  refine ⟨_, fieldWritten_zext_of_hasField haddr (by omega) op v, ?_⟩
  rw [← bitAt_aliasApply hstart (by omega) op v, ← bitAt_aliasApply hspecial (by omega) op v]
  exact gated_off rfl rfl hdone hoff

/-- Settles O30: refused while enabled, stored while disabled. -/
theorem holdAndSetupWrites : Obligations.HoldAndSetupWrites := by
  intro op v s hdone
  obtain ⟨htx, hrx⟩ := sdaHoldWord_fields s.i2c
  refine ⟨fun hon => ⟨whileDisabled_on rfl hdone hon, whileDisabled_on rfl hdone hon⟩, fun hoff => ⟨?_, ?_⟩⟩
  · exact ⟨_, _, fieldWritten_zext_of_hasField htx (by omega) op v, fieldWritten_zext_of_hasField hrx (by omega) op v,
      whileDisabled_off rfl rfl hdone hoff⟩
  · exact ⟨_, PinMux.fieldWritten_zext (by omega) op s.i2c.sdaSetup v, whileDisabled_off rfl rfl hdone hoff⟩

/-- Settles O31: the fields of the aliased word, at any time. -/
theorem ungatedWrites : Obligations.UngatedWrites := by
  intro op v s hdone
  refine ⟨⟨_, PinMux.fieldWritten_zext (by omega) op s.i2c.intrMask v, stored rfl rfl hdone⟩,
    ⟨_, PinMux.fieldWritten_zext (by omega) op s.i2c.dmaCr v, stored rfl rfl hdone⟩,
    ⟨_, PinMux.fieldWritten_zext (by omega) op s.i2c.dmaTdlr v, stored rfl rfl hdone⟩,
    ⟨_, PinMux.fieldWritten_zext (by omega) op s.i2c.dmaRdlr v, stored rfl rfl hdone⟩, ?_, ?_⟩
  · rw [← bitAt_aliasApply_bit1]
    exact stored rfl rfl hdone
  · rw [← bitAt_aliasApply_bit1]
    exact stored rfl rfl hdone

/-- Settles O32: the field of the aliased word, unless it is above 15. -/
theorem thresholdWrites : Obligations.ThresholdWrites := by
  intro op v s hdone
  exact ⟨⟨_, PinMux.fieldWritten_zext (by omega) op s.i2c.rxTl v,
      threshold (g := fun x r => { r with rxTl := x }) rfl rfl rfl hdone⟩,
    ⟨_, PinMux.fieldWritten_zext (by omega) op s.i2c.txTl v,
      threshold (g := fun x r => { r with txTl := x }) rfl rfl rfl hdone⟩⟩

/-! ### Launch and reset values (70_reset_and_hazards.md R701, 10_state.md R79) -/

/-- In a launch state no RESET_DONE bit is 1 where its RESET bit is. -/
theorem and_not_self (x : BitVec 25) : x &&& ~~~x = 0#25 := by
  refine BitVec.eq_of_getLsbD_eq fun k hk => ?_
  rw [BitVec.getLsbD_and, BitVec.getLsbD_not, decide_eq_true hk, Bool.true_and, Bool.and_not_self,
    BitVec.getLsbD_zero]

/-- Settles O11: every clause at the reset values. -/
theorem launchMeetsInvariant : Obligations.LaunchMeetsInvariant := by
  refine ⟨fun x => ⟨(StateInvariant.inv_iff _).mpr ⟨?_, rfl, nofun⟩, rfl, rfl, rfl⟩, rfl⟩
  exact { config := StateInvariant.configLegal_reset, txqBound := Nat.zero_le _, rxqBound := Nat.zero_le _,
          enable := rfl, disabled := fun _ => ⟨rfl, rfl, rfl, rfl, rfl⟩, flush := nofun, owner := nofun,
          pending := fun _ => rfl, slave := ⟨rfl, rfl, rfl, rfl⟩, causes := StateInvariant.causes_reset,
          released := and_not_self x, heldI2c := fun _ => ⟨rfl, rfl⟩, heldIo := fun _ => rfl,
          heldPads := fun _ => rfl, pins := StateInvariant.pinsLegal_reset rfl, temps := rfl }

/-- A masked read whose free bits lie outside the mask. -/
theorem returnsAs_of_respondMasked {i : Instr} {s : State} {d word m value : Word}
    (he : exec i s = .next (respondMasked d word s)) (hm : m &&& ~~~d = 0#32) (hv : word &&& d &&& m = value) :
    ReturnsAs i s m value := by
  refine ⟨_, _, he, rfl, ?_⟩
  rw [BitVec.and_or_distrib_right, hv, BitVec.and_assoc, BitVec.and_comm (~~~d), hm, BitVec.and_zero,
    BitVec.or_zero]

/-- A read of a constant. -/
theorem returnsAs_of_respond {i : Instr} {s : State} {c m value : Word} (he : exec i s = .next (respond c s))
    (hv : c &&& m = value) : ReturnsAs i s m value := ⟨_, _, he, rfl, hv⟩

/-- With no block held at launch every RESET_DONE bit is 1. -/
theorem done_launch {k : Nat} (hk : k < 25) : (State.launch 0).resets.done.getLsbD k = true := by
  show (~~~0#25).getLsbD k = true
  rw [BitVec.getLsbD_not, decide_eq_true hk, BitVec.getLsbD_zero]
  rfl

/-- The RESET_DONE bits of the three blocks. -/
theorem blocks_launch : (State.launch 0).resets.done.getLsbD 3 = true ∧
    (State.launch 0).resets.done.getLsbD 5 = true ∧ (State.launch 0).resets.done.getLsbD 8 = true :=
  ⟨done_launch (by decide), done_launch (by decide), done_launch (by decide)⟩

/-- A read of I2C0 in the launch state with no block held. -/
theorem returnsAs_launch {i : Instr} {w : Nat} {f : BitVec w} {m value : Word}
    (he : exec i (State.launch 0) = .next (inBlock i2cBit (respondLow f) (State.launch 0)))
    (hm : m &&& ~~~(BitVec.allOnes w).setWidth 32 = 0#32)
    (hv : zext f &&& (BitVec.allOnes w).setWidth 32 &&& m = value) : ReturnsAs i (State.launch 0) m value :=
  returnsAs_of_respondMasked (exec_open he blocks_launch.1) hm hv

/-- Every pin's control register at launch. -/
theorem pinCtrlOf_launch (x : BitVec 25) (n : Nat) : pinCtrlOf (State.launch x) n = PinCtrl.reset := by
  show ((Vector.replicate 30 PinCtrl.reset)[n]?).getD PinCtrl.reset = _
  rw [Vector.getElem?_replicate]
  split <;> rfl

/-- Every pad at launch. -/
theorem padOf_launch (x : BitVec 25) (n : Nat) : padOf (State.launch x) n = Pad.reset := by
  show ((Vector.replicate 30 Pad.reset)[n]?).getD Pad.reset = _
  rw [Vector.getElem?_replicate]
  split <;> rfl

/-- Settles O17: each register's word at its reset values, under its mask. -/
theorem resetValues : Obligations.ResetValues := by
  unfold Obligations.ResetValues
  intro s
  obtain ⟨hi2c, hio, hpads⟩ := blocks_launch
  refine ⟨?i2c, ⟨rfl, rfl, rfl, rfl, rfl, rfl, rfl, rfl, rfl, rfl, rfl⟩, ⟨rfl, rfl, rfl⟩, fun n hn => ⟨?_, ?_⟩,
    ⟨?_, ?_, ?_⟩, ⟨rfl, rfl, rfl, rfl, rfl, rfl⟩, fun t => ⟨rfl, rfl, rfl, rfl⟩⟩
  case i2c =>
    have low {i : Instr} {w : Nat} {f : BitVec w} {m value : Word}
        (he : exec i s = .next (inBlock i2cBit (respondLow f) s))
        (hm : m &&& ~~~(BitVec.allOnes w).setWidth 32 = 0#32 := by decide)
        (hv : zext f &&& (BitVec.allOnes w).setWidth 32 &&& m = value := by decide) :
        ReturnsAs i s m value := returnsAs_launch he hm hv
    have constant {i : Instr} {c m value : Word} (he : exec i s = .next (inBlock i2cBit (respond c) s))
        (hv : c &&& m = value := by decide) : ReturnsAs i s m value :=
      returnsAs_of_respond (exec_open he hi2c) hv
    exact ⟨low rfl, low rfl, low rfl, low rfl, low rfl, low rfl, low rfl, low rfl, low rfl, low rfl, low rfl, low rfl,
      low rfl, low rfl, low rfl, low rfl, low rfl,
      returnsAs_of_respondMasked (exec_open (i := .rdIcTxAbrtSource) rfl hi2c) (by decide) (by decide),
      low rfl, low rfl, low rfl, low rfl, low rfl, low rfl, low rfl, low rfl,
      constant rfl BitVec.and_allOnes, constant rfl, constant rfl⟩
  · have hctrl : exec (.rdGpioCtrl n) s = .next (respondMasked pinCtrlDefined (pinCtrlWord (pinCtrlOf s n.toNat)) s) :=
      congrArg Host.Outcome.next (Pins.onPin_inBlock hn hio _)
    rw [pinCtrlOf_launch] at hctrl
    exact returnsAs_of_respondMasked hctrl (by decide) (by decide)
  · have hpad : exec (.rdPadGpio n) s = .next (respondLow (padWord (padOf s n.toNat)) s) :=
      congrArg Host.Outcome.next (Pins.onPin_inBlock hn hpads _)
    rw [padOf_launch] at hpad
    exact returnsAs_of_respondMasked hpad (by decide) (by decide)
  · exact returnsAs_of_respondMasked (congrArg Host.Outcome.next (inBlock_open hpads _)) (by decide) (by decide)
  · exact returnsAs_of_respondMasked rfl (by decide) (by decide)
  · exact returnsAs_of_respondMasked rfl (by decide) (by decide)
end Sys2Proof.Proofs.Registers
end

section
/-! The timing refinement (70_reset_and_hazards.md R730 to R735): one controller-clock cycle, the segments of each
event, and the wires within a cycle. -/

namespace Sys2Proof.Proofs.Cycles

open Sys2Proof Sys2Proof.Machine Sys2Proof.Safety Sys2Proof.Laws

/-! ### One cycle -/

/-- A clock turn changes the cycle-level state and the moment alone. -/
theorem clkLocal_frame (s : State) : clkLocal s = { s with
    ctrl := { s.ctrl with
      phase := (clockTick s).ctrl.phase, cnt := (clockTick s).ctrl.cnt, segments := (clockTick s).ctrl.segments,
      sdaLine := (clockTick s).ctrl.sdaLine, sdaDue := (clockTick s).ctrl.sdaDue }
    draws := s.draws + 1 } := by
  have hframe : clkLocal s = { s with
      ctrl := { s.ctrl with
        phase := (clkLocal s).ctrl.phase, cnt := (clkLocal s).ctrl.cnt, segments := (clkLocal s).ctrl.segments,
        sdaLine := (clkLocal s).ctrl.sdaLine, sdaDue := (clkLocal s).ctrl.sdaDue }
      draws := s.draws + 1 } := by
    obtain ⟨_, _, _, _, _, h⟩ := Steps.clkLocal_eq s
    rw [h]
  exact hframe

/-- While the count runs it comes down by one, and SDA changes as in any cycle of its phase. -/
theorem clockTick_counting {s : State} (hfree : ¬ (s.ctrl.phase = .high ∧ cycleSclLevel s = false))
    (hcnt : 1 < s.ctrl.cnt.toNat) : clockTick s = { s with ctrl := { s.ctrl with
      cnt := s.ctrl.cnt - 1, sdaLine := (sdaTick s.ctrl).1, sdaDue := (sdaTick s.ctrl).2 } } := by
  rw [clockTick, if_neg hfree, if_pos hcnt]

/-- A START that may not begin waits. -/
theorem clockTick_waiting {s : State} (hcnt : s.ctrl.cnt.toNat ≤ 1) (hwait : startWaits s = true) :
    clockTick s = s := by
  obtain ⟨⟨hidle, -⟩, -⟩ := (startWaits_iff s).mp hwait
  have hfree : ¬ (s.ctrl.phase = .high ∧ cycleSclLevel s = false) := fun h => by
    rw [hidle] at h
    cases h.1
  rw [clockTick, if_neg hfree, if_neg (Nat.not_lt.mpr hcnt), if_pos hwait]

/-- Where the count has run out the next segment begins. -/
theorem clockTick_entering {s : State} (hfree : ¬ (s.ctrl.phase = .high ∧ cycleSclLevel s = false))
    (hcnt : s.ctrl.cnt.toNat ≤ 1) (hgo : ¬ startWaits s = true) : clockTick s = enterNextPhase s := by
  rw [clockTick, if_neg hfree, if_neg (Nat.not_lt.mpr hcnt), if_neg hgo]

/-- The count after one more cycle. -/
theorem toNat_sub_one {n : BitVec 16} (h : 1 < n.toNat) : (n - 1).toNat = n.toNat - 1 := by
  rw [BitVec.toNat_sub]
  show (2 ^ 16 - 1 + n.toNat) % 2 ^ 16 = n.toNat - 1
  have hlt := n.isLt
  omega

/-- SDA in a cycle in which no change is due. -/
theorem sdaTick_still {c : Ctrl} (h : c.phase ≠ .low ∨ c.sdaDue = none) : sdaTick c = (c.sdaLine, c.sdaDue) := by
  obtain ⟨_, hlow, hdue, -⟩ | ⟨_, hlow, hdue, -⟩ | ⟨-, hs⟩ := sdaTick_cases c
  · exact absurd hlow (h.resolve_right fun hnone => by cases hnone.symm.trans hdue)
  · exact absurd hlow (h.resolve_right fun hnone => by cases hnone.symm.trans hdue)
  · exact hs

/-- SDA in a cycle of LOW in which a change is due. -/
theorem sdaTick_due {c : Ctrl} {k : Nat} {b : Option Bool} (hlow : c.phase = .low) (hdue : c.sdaDue = some ⟨k, b⟩) :
    (1 < k → sdaTick c = (c.sdaLine, some ⟨k - 1, b⟩)) ∧
    (k ≤ 1 → sdaTick c = (⟨b, c.sdaLine.targetLow⟩, none)) := by
  simp only [sdaTick, hlow, hdue]
  refine ⟨fun h => ?_, fun h => ?_⟩
  · rw [if_neg (Nat.not_le.mpr h)]
  · rw [if_pos h]

/-- SDA as SCL falls: the controller's change is due when the hold time has passed. -/
theorem enterSda_fall (t hold : Nat) {g : Segment} {c : Ctrl} {d : SdaDrive} (hg : g.phase = .low)
    (hc : c.phase ≠ .low) (hd : g.sda = some d) :
    (hold = 0 → (enterSda t hold g c).1.ctrlLow = d.ctrlLow ∧ (enterSda t hold g c).2 = none) ∧
    (hold ≠ 0 → (enterSda t hold g c).1.ctrlLow = (sdaNow c).ctrlLow ∧
      (enterSda t hold g c).2 = some ⟨hold, d.ctrlLow⟩) := by
  have hleft : holdLeft hold c = hold := by
    unfold holdLeft
    split
    · exact absurd ‹_› hc
    · rfl
  have hdrive : ((phaseSda g.phase).or g.sda).getD sdaOpen = d := by rw [hg, hd]; rfl
  unfold enterSda
  rw [if_pos hg, hleft, hdrive]
  refine ⟨fun h => ?_, fun h => ?_⟩
  · rw [if_pos h]
    exact ⟨rfl, rfl⟩
  · rw [if_neg h]
    exact ⟨rfl, rfl⟩

/-- SDA in the HIGH of a bit. -/
theorem enterSda_high (t hold : Nat) {g : Segment} (c : Ctrl) {a b : Bool} (hg : g.phase = .high)
    (hd : g.sda = some ⟨some a, some b⟩) : enterSda t hold g c = (⟨some a, some b⟩, none) := by
  obtain ⟨phase, cycles, sda⟩ := g
  cases hg
  cases hd
  rfl

/-- Another master holds the bus as much at the beginning of a turn as before it. -/
theorem anotherHolds_beginTurn (s : State) : anotherHolds (beginTurn s) = anotherHolds s := by
  rw [anotherHolds, beginTurn_wires, beginTurn_trace, ← anotherHolds]

/-- The cycle-level state after a cycle in which the count runs. -/
theorem counting_ctrl {s : State} (hfree : ¬ (s.ctrl.phase = .high ∧ cycleSclLevel s = false))
    (hcnt : 1 < s.ctrl.cnt.toNat) :
    let c := (clockTick s).ctrl
    c.phase = s.ctrl.phase ∧ c.cnt.toNat = s.ctrl.cnt.toNat - 1 ∧ c.segments = s.ctrl.segments ∧
      (s.ctrl.phase ≠ .low ∨ s.ctrl.sdaDue = none → c.sdaLine = s.ctrl.sdaLine ∧ c.sdaDue = s.ctrl.sdaDue) ∧
      ∀ k b, s.ctrl.phase = .low → s.ctrl.sdaDue = some ⟨k, b⟩ →
        (1 < k → c.sdaLine = s.ctrl.sdaLine ∧ c.sdaDue = some ⟨k - 1, b⟩) ∧
        (k ≤ 1 → c.sdaLine = ⟨b, s.ctrl.sdaLine.targetLow⟩ ∧ c.sdaDue = none) := by
  rw [clockTick_counting hfree hcnt]
  refine ⟨rfl, toNat_sub_one hcnt, rfl, fun h => ?_, fun k e hlow hdue => ?_⟩
  · exact Prod.mk.inj (sdaTick_still h)
  · obtain ⟨hlater, hnow⟩ := sdaTick_due hlow hdue
    exact ⟨fun h => Prod.mk.inj (hlater h), fun h => Prod.mk.inj (hnow h)⟩

/-- The cycle-level state after a cycle in which the next segment begins. -/
theorem entering_ctrl {s : State} {x : Segment} {rest : List Segment}
    (hfree : ¬ (s.ctrl.phase = .high ∧ cycleSclLevel s = false)) (hgo : ¬ startWaits s = true)
    (hcnt : s.ctrl.cnt.toNat ≤ 1) (hx : s.ctrl.segments = x :: rest) :
    let c := (clockTick s).ctrl
    c.phase = x.phase ∧ c.segments = rest ∧ (∀ k, x.cycles = some k → c.cnt = BitVec.ofNat 16 k) ∧
      (∀ d, x.phase = .low → s.ctrl.phase ≠ .low → x.sda = some d →
        (s.i2c.sdaTxHold = 0 → c.sdaLine.ctrlLow = d.ctrlLow ∧ c.sdaDue = none) ∧
        (s.i2c.sdaTxHold ≠ 0 → c.sdaLine.ctrlLow = (sdaNow s.ctrl).ctrlLow ∧
          c.sdaDue = some ⟨s.i2c.sdaTxHold.toNat, d.ctrlLow⟩)) ∧
      (∀ a b, x.phase = .high → x.sda = some ⟨some a, some b⟩ →
        c.sdaLine = ⟨some a, some b⟩ ∧ c.sdaDue = none) := by
  rw [clockTick_entering hfree hcnt hgo, enterNextPhase, hx]
  refine ⟨rfl, rfl, fun k hk => ?_, fun d hlow hfall hd => ?_, fun a b hhigh hd => ?_⟩
  · show segmentCount s.draws x = _
    rw [segmentCount, hk]
  · obtain ⟨hnone, hsome⟩ := enterSda_fall s.draws s.i2c.sdaTxHold.toNat hlow hfall hd
    exact ⟨fun h => hnone (congrArg BitVec.toNat h), fun h => hsome fun hz => h (BitVec.eq_of_toNat_eq hz)⟩
  · exact Prod.mk.inj (enterSda_high s.draws s.i2c.sdaTxHold.toNat s.ctrl hhigh hd)

/-- The cycle-level state after a cycle in which no segment is left. -/
theorem resting_ctrl {s : State} (hfree : ¬ (s.ctrl.phase = .high ∧ cycleSclLevel s = false))
    (hcnt : s.ctrl.cnt.toNat ≤ 1) (hx : s.ctrl.segments = []) :
    let c := (clockTick s).ctrl
    c.phase = (if s.ctrl.owned then .low else .idle) ∧ c.cnt = 0 ∧ c.segments = [] := by
  have hgo : ¬ startWaits s = true := fun h => by
    obtain ⟨⟨-, hhead⟩, -⟩ := (startWaits_iff s).mp h
    rw [hx] at hhead
    cases hhead
  rw [clockTick_entering hfree hcnt hgo, enterNextPhase, hx, restSegment]
  cases s.ctrl.owned <;> exact ⟨rfl, rfl, rfl⟩

/-! ### The segments of an event (70_reset_and_hazards.md R731, R732) -/

/-- Each bit takes one SCL period. -/
theorem bitSegments_eq_flatten (h l : Nat) (ds : List SdaDrive) : bitSegments h l ds = (ds.map fun d =>
    [⟨.low, some (l + Config.sclLowExtra), some d⟩,
      ⟨.high, some (h + Config.sclHighExtra), some d⟩]).flatten := by
  induction ds with
  | nil => rfl
  | cons d rest ih =>
    rw [bitSegments, ih]
    rfl

/-! ### The wires within a cycle (70_reset_and_hazards.md R730, R732) -/

/-- In a phase that fixes no level of SDA, the line says who pulls it. -/
theorem sdaNow_of_line {c : Ctrl} (h : c.phase = .low ∨ c.phase = .high) : sdaNow c = c.sdaLine := by
  obtain h | h := h <;> rw [sdaNow, h] <;> rfl

/-- In the HIGH of a bit SDA reads 0 where someone pulls it low and 1 where no one does, at the wire and at the
controller's input. -/
theorem bit_on_wire {s : State} {a b : Bool} (hhigh : s.ctrl.phase = .high)
    (hline : s.ctrl.sdaLine = ⟨some a, some b⟩) (hw : wired s = true) (henv : s.wires.envSdaLow = false) :
    cycleSdaLevel s = !(a || b) ∧ sdaSample s = !(a || b) := by
  have hnow : sdaNow s.ctrl = ⟨some a, some b⟩ := (sdaNow_of_line (.inr hhigh)).trans hline
  have hwired : wired (cycleOutputs s) = true := hw
  have hlevel : sdaLevel (cycleOutputs s) s.draws = !(a || b) := by
    rw [sdaLevel_of_wired _ _ hwired]
    simp only [cycleOutputs, hnow, henv, Option.getD_some, Bool.false_or]
  exact ⟨hlevel, (i2cInput_of_wired _ _ hwired).trans hlevel⟩

/-- Settles O60: a cycle's clauses, the segments by events, the events of a command and of a user abort, and the
wires by phases. -/
theorem clockCycleTouchesOnlyTiming : Obligations.ClockCycleTouchesOnlyTiming := by
  refine ⟨fun s hturn => ?cycle, fun h l => ?events, fun c s hen => ?command, fun s hturn hen => ?abort,
    fun s => ?wires⟩
  case cycle =>
    have hstep : step s = .next (clkLocal (beginTurn s)) := Turns.step_of_fetch_none hturn rfl
    have hctrl := (beginTurn_ctrl s).symm
    have hi2c := (beginTurn_i2c s).symm
    have hother := (anotherHolds_beginTurn s).symm
    generalize beginTurn s = b at hstep hctrl hi2c hother
    rw [hctrl, hi2c, hother, hstep]
    refine ⟨_, _, _, _, _, congrArg Host.Outcome.next (clkLocal_frame b), fun hs => ?_,
      fun hs hcnt => counting_ctrl hs hcnt, fun hcnt hb => ?_,
      fun hs hb hcnt x rest hx => entering_ctrl hs (fun h => hb ((startWaits_iff b).mp h)) hcnt hx,
      fun hs hcnt hx => resting_ctrl hs hcnt hx⟩
    · rw [show clockTick b = b from if_pos hs]
      exact ⟨rfl, rfl, rfl, rfl, rfl⟩
    · rw [clockTick_waiting hcnt ((startWaits_iff b).mpr hb)]
      exact ⟨rfl, rfl, rfl, rfl, rfl⟩
  case events =>
    intro periods bits sent answered
    have hbits (ds : List SdaDrive) : bitSegments h l ds = periods ds := bitSegments_eq_flatten h l ds
    exact ⟨fun b => ⟨hbits _, hbits _, hbits _, hbits _, hbits _, hbits _, hbits _⟩, hbits _, hbits _, rfl, rfl, rfl⟩
  case command =>
    obtain ⟨es, u, hx⟩ := Transfer.exists_xferOutcome c s
    exact ⟨_, es, Commands.exec_of_outcome hen hx, rfl, rfl⟩
  case abort =>
    have hstep := I2cFsm.step_of_abortEnabled hturn hen
    obtain ⟨b, fs, -, hs⟩ := settle_eq (userAbort (beginTurn s))
    refine ⟨_, I2cFsm.abortEvents s.ctrl, hstep.trans (congrArg _ hs), ?_, ?_⟩
    · rw [I2cFsm.userAbort_eq, I2cFsm.wired_beginTurn, beginTurn_trace, beginTurn_ctrl]
    · rw [I2cFsm.userAbort_eq, beginTurn_ctrl, segmentsOf, beginTurn_i2c, ← segmentsOf]
  case wires =>
    intro scl sda
    refine ⟨⟨_, rfl, fun h => by rw [h, Bool.true_or]⟩, ?_, ?_, ?_, fun a hphase hline => ?_,
      fun a b hhigh hline hw henv => bit_on_wire hhigh hline hw henv⟩
    · show phaseSclLow s.ctrl.phase = true ↔ s.ctrl.phase = .low
      cases s.ctrl.phase <;> simp [phaseSclLow]
    · rintro (h | h) <;> simp only [sda, cycleOutputs, sdaNow, h] <;> rfl
    · rintro (h | h) <;> simp only [sda, cycleOutputs, sdaNow, h] <;> rfl
    · simp only [sda, cycleOutputs, sdaNow_of_line hphase, hline, Option.getD_some]
end Sys2Proof.Proofs.Cycles
end
